-- ==== Sys2Proof/Word.lean ====
section
/-! DEFINITION. The words of the CORE: bytes and 16-bit words (00_scope.md R6, R8). -/

namespace Sys2Proof

/-- A memory byte, an opcode, a byte register's value (00_scope.md R6). -/
abbrev Byte := BitVec 8

/-- A 16-bit register's value (00_scope.md R6). -/
abbrev Word := BitVec 16

/-- A 3-bit field of the mode byte or of an opcode (30_encoding.md R72, 44_incdec_stack.md R300). -/
abbrev Field3 := BitVec 3

end Sys2Proof
end

