-- ==== Sys2Proof/Config.lean ====
section
/-! DEFINITION. The named parameters of the model (00_scope.md R7) and what memory nobody has written reads as. -/

namespace Sys2Proof

/-- DATA_ADDRESSING (20_memory.md R61). -/
inductive DataAddressing where
  | flat
  | segmented
deriving DecidableEq, Repr

/-- MOD00_RM110 (40_operand_resolver.md R106). -/
inductive Mod00Rm110 where
  | bpIndirect
  | directDisp16
deriving DecidableEq, Repr

/-- PROVISIONAL_POLICY (42_engine.md R174). -/
inductive ProvisionalPolicy where
  | refuse
  | execute
deriving DecidableEq, Repr

/-- The parameters of 00_scope.md R7 that belong to a machine. They stand in State, where no step changes them,
so that every statement holds for all of their values (DESIGN CHOICE, log entry 1, safe). -/
structure Params where
  memSize : Nat
  dataAddressing : DataAddressing
  mod00Rm110 : Mod00Rm110
  provisionalPolicy : ProvisionalPolicy
deriving DecidableEq, Repr

/-- MEM_SIZE is at least 1 (00_scope.md R7). -/
def Params.wf (p : Params) : Bool := decide (1 ≤ p.memSize)

/-- The "spec default" column of 00_scope.md R7, for a given MEM_SIZE, which has none. -/
def Params.specDefault (memSize : Nat) : Params :=
  { memSize := memSize, dataAddressing := .flat, mod00Rm110 := .bpIndirect, provisionalPolicy := .refuse }

/-- The parameters of State.reset: MEM_SIZE as in 95_test_vectors.md (DESIGN CHOICE, log entry 3, unsafe), the two
addressing defaults of 00_scope.md R7, and the policy under which the PROVISIONAL opcodes have their effect
(DESIGN CHOICE, log entry 2, unsafe). -/
def Params.launch : Params :=
  { memSize := 0x10000, dataAddressing := .flat, mod00Rm110 := .bpIndirect, provisionalPolicy := .execute }

/-- What a byte of memory reads as that nothing has written: the spec leaves it to the launch (10_state.md R40) and
says that reading it is no fault (70_reset_and_hazards.md R381). DESIGN CHOICE, log entry 8, unsafe. -/
def Config.unwrittenByte : Byte := 0x00

end Sys2Proof
end

