-- ==== Sys2Proof/Syntax.lean ====
section
/-! DEFINITION. The instructions: one constructor for each row of spec/opcode_table.json (30_encoding.md R80), and
their operands (40_operand_resolver.md, 10_state.md R21, R22, R26). -/

namespace Sys2Proof

/-- The registers of `GPR16`, in the order of their ids 0 to 7 (10_state.md R21). -/
inductive Reg16 where
  | ax | cx | dx | bx | sp | bp | si | di
deriving DecidableEq, Repr

/-- The registers of `GPR8`, in the order of their ids 0 to 7 (10_state.md R22). -/
inductive Reg8 where
  | al | cl | dl | bl | ah | ch | dh | bh
deriving DecidableEq, Repr

/-- The segment registers, in the order of their ids 0 to 3 (10_state.md R26). -/
inductive SegReg where
  | es | cs | ss | ds
deriving DecidableEq, Repr

/-- The base sums of a memory operand, in the order of rm 000 to 111 (40_operand_resolver.md R102). -/
inductive Base where
  | bxSi | bxDi | bpSi | bpDi | si | di | bp | bx
deriving DecidableEq, Repr

/-- A memory operand: mod 00, 01 and 10 (40_operand_resolver.md R104 to R106), and the direct address that mod 00,
rm 110 means under MOD00_RM110 = DIRECT_DISP16 (R106). -/
inductive MemOperand where
  | plain (b : Base)
  | disp8 (b : Base) (d : Byte)
  | disp16 (b : Base) (d : Word)
  | direct (addr : Word)
deriving DecidableEq, Repr

/-- The r/m operand at width 8 (40_operand_resolver.md R100). -/
inductive Rm8 where
  | reg (r : Reg8)
  | mem (m : MemOperand)
deriving DecidableEq, Repr

/-- The r/m operand at width 16 (40_operand_resolver.md R100). -/
inductive Rm16 where
  | reg (r : Reg16)
  | mem (m : MemOperand)
deriving DecidableEq, Repr

/-- The instructions. Operands stand destination first (30_encoding.md R79, R86). -/
inductive Instr where
  | addRm8R8 (rm : Rm8) (r : Reg8)
  | addRm16R16 (rm : Rm16) (r : Reg16)
  | addR8Rm8 (r : Reg8) (rm : Rm8)
  | addR16Rm16 (r : Reg16) (rm : Rm16)
  | addAlImm8 (imm : Byte)
  | addAxImm16 (imm : Word)
  | unsettled06
  | unsettled07
  | orRm8R8 (rm : Rm8) (r : Reg8)
  | orRm16R16 (rm : Rm16) (r : Reg16)
  | orR8Rm8 (r : Reg8) (rm : Rm8)
  | orR16Rm16 (r : Reg16) (rm : Rm16)
  | orAlImm8 (imm : Byte)
  | orAxImm16 (imm : Word)
  | unsettled0E
  | unsettled0F
  | adcRm8R8 (rm : Rm8) (r : Reg8)
  | adcRm16R16 (rm : Rm16) (r : Reg16)
  | adcR8Rm8 (r : Reg8) (rm : Rm8)
  | adcR16Rm16 (r : Reg16) (rm : Rm16)
  | adcAlImm8 (imm : Byte)
  | adcAxImm16 (imm : Word)
  | unsettled16
  | unsettled17
  | sbbRm8R8 (rm : Rm8) (r : Reg8)
  | sbbRm16R16 (rm : Rm16) (r : Reg16)
  | sbbR8Rm8 (r : Reg8) (rm : Rm8)
  | sbbR16Rm16 (r : Reg16) (rm : Rm16)
  | sbbAlImm8 (imm : Byte)
  | sbbAxImm16 (imm : Word)
  | unsettled1E
  | unsettled1F
  | andRm8R8 (rm : Rm8) (r : Reg8)
  | andRm16R16 (rm : Rm16) (r : Reg16)
  | andR8Rm8 (r : Reg8) (rm : Rm8)
  | andR16Rm16 (r : Reg16) (rm : Rm16)
  | andAlImm8 (imm : Byte)
  | andAxImm16 (imm : Word)
  | unimplemented26
  | daa
  | subRm8R8 (rm : Rm8) (r : Reg8)
  | subRm16R16 (rm : Rm16) (r : Reg16)
  | subR8Rm8 (r : Reg8) (rm : Rm8)
  | subR16Rm16 (r : Reg16) (rm : Rm16)
  | subAlImm8 (imm : Byte)
  | subAxImm16 (imm : Word)
  | unimplemented2E
  | unsettled2F
  | xorRm8R8 (rm : Rm8) (r : Reg8)
  | xorRm16R16 (rm : Rm16) (r : Reg16)
  | xorR8Rm8 (r : Reg8) (rm : Rm8)
  | xorR16Rm16 (r : Reg16) (rm : Rm16)
  | xorAlImm8 (imm : Byte)
  | xorAxImm16 (imm : Word)
  | unimplemented36
  | unsettled37
  | cmpRm8R8 (rm : Rm8) (r : Reg8)
  | cmpRm16R16 (rm : Rm16) (r : Reg16)
  | cmpR8Rm8 (r : Reg8) (rm : Rm8)
  | cmpR16Rm16 (r : Reg16) (rm : Rm16)
  | cmpAlImm8 (imm : Byte)
  | cmpAxImm16 (imm : Word)
  | unimplemented3E
  | unsettled3F
  | incAx
  | incCx
  | incDx
  | incBx
  | incSp
  | incBp
  | incSi
  | incDi
  | decAx
  | decCx
  | decDx
  | decBx
  | decSp
  | decBp
  | decSi
  | decDi
  | pushAx
  | pushCx
  | pushDx
  | pushBx
  | pushSp
  | pushBp
  | pushSi
  | pushDi
  | popAx
  | popCx
  | popDx
  | popBx
  | popSp
  | popBp
  | popSi
  | popDi
  | unimplemented60
  | unimplemented61
  | unimplemented62
  | unimplemented63
  | unimplemented64
  | unimplemented65
  | unimplemented66
  | unimplemented67
  | unimplemented68
  | unimplemented69
  | unimplemented6A
  | unimplemented6B
  | unimplemented6C
  | unimplemented6D
  | unimplemented6E
  | unimplemented6F
  | unimplemented70
  | unimplemented71
  | unimplemented72
  | unimplemented73
  | unimplemented74
  | unimplemented75
  | unimplemented76
  | unimplemented77
  | unimplemented78
  | unimplemented79
  | unimplemented7A
  | unimplemented7B
  | unimplemented7C
  | unimplemented7D
  | unimplemented7E
  | unimplemented7F
  | unsettled80
  | unsettled81
  | unsettled82
  | unsettled83
  | unsettled84
  | unsettled85
  | unimplemented86
  | unimplemented87
  | unimplemented88
  | unimplemented89
  | unimplemented8A
  | unimplemented8B
  | unimplemented8C
  | unimplemented8D
  | unimplemented8E
  | unsettled8F
  | unimplemented90
  | unimplemented91
  | unimplemented92
  | unimplemented93
  | unimplemented94
  | unimplemented95
  | unimplemented96
  | unimplemented97
  | unimplemented98
  | unimplemented99
  | unimplemented9A
  | unimplemented9B
  | unsettled9C
  | unsettled9D
  | unimplemented9E
  | unimplemented9F
  | unimplementedA0
  | unimplementedA1
  | unimplementedA2
  | unimplementedA3
  | unimplementedA4
  | unimplementedA5
  | unimplementedA6
  | unimplementedA7
  | unsettledA8
  | unsettledA9
  | unimplementedAA
  | unimplementedAB
  | unimplementedAC
  | unimplementedAD
  | unimplementedAE
  | unimplementedAF
  | unimplementedB0
  | unimplementedB1
  | unimplementedB2
  | unimplementedB3
  | unimplementedB4
  | unimplementedB5
  | unimplementedB6
  | unimplementedB7
  | unimplementedB8
  | unimplementedB9
  | unimplementedBA
  | unimplementedBB
  | unimplementedBC
  | unimplementedBD
  | unimplementedBE
  | unimplementedBF
  | unimplementedC0
  | unimplementedC1
  | unimplementedC2
  | unimplementedC3
  | unimplementedC4
  | unimplementedC5
  | unimplementedC6
  | unimplementedC7
  | unimplementedC8
  | unimplementedC9
  | unimplementedCA
  | unimplementedCB
  | unimplementedCC
  | unimplementedCD
  | unimplementedCE
  | unimplementedCF
  | unsettledD0
  | unsettledD1
  | unsettledD2
  | unsettledD3
  | unsettledD4
  | unsettledD5
  | unimplementedD6
  | unimplementedD7
  | unimplementedD8
  | unimplementedD9
  | unimplementedDA
  | unimplementedDB
  | unimplementedDC
  | unimplementedDD
  | unimplementedDE
  | unimplementedDF
  | unimplementedE0
  | unimplementedE1
  | unimplementedE2
  | unimplementedE3
  | unimplementedE4
  | unimplementedE5
  | unimplementedE6
  | unimplementedE7
  | unimplementedE8
  | unimplementedE9
  | unimplementedEA
  | unimplementedEB
  | unimplementedEC
  | unimplementedED
  | unimplementedEE
  | unimplementedEF
  | unimplementedF0
  | unimplementedF1
  | unimplementedF2
  | unimplementedF3
  | hlt
  | unimplementedF5
  | unsettledF6
  | unsettledF7
  | unimplementedF8
  | unimplementedF9
  | unimplementedFA
  | unimplementedFB
  | unimplementedFC
  | unimplementedFD
  | unsettledFE
  | unsettledFF
deriving DecidableEq, Repr

end Sys2Proof
end

