-- ==== Sys2Proof/Machine/State.lean ====
section
/-! DEFINITION. The state of the CORE (10_state.md, 20_memory.md R50), the reasons a step stops, and the state after
construction (10_state.md R40). -/

namespace Sys2Proof.Machine

/-- Memory: the bytes that differ from `Config.unwrittenByte`, by rising address (20_memory.md R50). -/
abbrev Memory := List Host.Cell

/-- The general, pointer and index registers (10_state.md R20 a and b, R21). -/
structure Gpr where
  ax : Word
  cx : Word
  dx : Word
  bx : Word
  sp : Word
  bp : Word
  si : Word
  di : Word
deriving DecidableEq, Repr

/-- The segment registers (10_state.md R20 c, R26). -/
structure Seg where
  es : Word
  cs : Word
  ss : Word
  ds : Word
deriving DecidableEq, Repr

/-- The nine named bits of the flags register (10_state.md R32); its other bits are not state (R34). Lean keeps the
words `if` and `of` for itself in places, so IF and OF carry an underscore. -/
structure Flags where
  cf : Bool
  pf : Bool
  af : Bool
  zf : Bool
  sf : Bool
  tf : Bool
  if_ : Bool
  df : Bool
  of_ : Bool
deriving DecidableEq, Repr

/-- HALT_REASON (10_state.md R36). -/
inductive HaltReason where
  | hlt
  | unimplementedOpcode (op : Byte)
  | unsupportedOperandCount (op : Byte)
deriving DecidableEq, Repr

/-- The errors of 60_exceptions.md R340. -/
inductive Error where
  /-- A memory access at or beyond MEM_SIZE; the address is the one passed to the accessor (R341). -/
  | outOfBounds (addr : Nat)
  /-- A register or segment id out of range (R342). -/
  | invalidOperandEncoding (id : Nat)
deriving DecidableEq, Repr

/-- The state of the machine. -/
structure State where
  gpr : Gpr
  seg : Seg
  /-- IP, the offset of the next opcode byte in the code segment (10_state.md R29). -/
  ip : Word
  flags : Flags
  /-- HALTED (10_state.md R35). -/
  halted : Bool
  /-- HALT_REASON (10_state.md R36). -/
  haltReason : Option HaltReason
  /-- ERROR (10_state.md R37). -/
  error : Option Error
  mem : Memory
  /-- The machine's parameters (00_scope.md R7); no step changes them (log entry 1). -/
  params : Params
deriving DecidableEq, Repr

/-- Why `step` has no step to take: the machine is not Running (42_engine.md R161; log entry 10). -/
inductive Fault where
  /-- Raised by `step` in the state Halted. Safe: the hardware takes no step there either (R160, R177). -/
  | halted (reason : Option HaltReason)
  /-- Raised by `step` in the state Errored. Safe: the hardware takes no step there either (R160, R178). -/
  | errored (e : Error)
deriving DecidableEq, Repr

/-- Why the model gives a step no meaning (42_engine.md R172). -/
inductive Refusal where
  /-- Raised by an arm of `exec` whose instruction has no meaning yet; no arm raises it. Safe. -/
  | notModelled (mnemonic : String)
  /-- Raised by a step on an UNSETTLED opcode, for which the spec has no rule (42_engine.md R173). Safe: nothing
  can be proved of a run that reaches it. -/
  | unsettledOpcode (op : Byte)
  /-- Raised by a step on a PROVISIONAL opcode under PROVISIONAL_POLICY = REFUSE (42_engine.md R174). Safe. -/
  | provisionalOpcode (op : Byte)
  /-- Raised by the fetch of a byte past offset 0xFFFF of the code segment (42_engine.md R163). Safe. -/
  | instructionCrossesSegmentEnd (ip0 : Word) (n : Nat)
deriving DecidableEq, Repr

/-- What a meaning or a step answers. -/
abbrev Out := Host.Outcome State Fault Refusal

/-- What the host fixes when it constructs a machine: the launch parameters of 10_state.md R40 and
70_reset_and_hazards.md R380, R381. -/
structure Launch where
  params : Params
  gpr : Gpr
  seg : Seg
  ip : Word
  flags : Flags
  mem : Memory
deriving DecidableEq, Repr

/-- Construction (10_state.md R40, 70_reset_and_hazards.md R382): everything as launched, HALTED 0, HALT_REASON and
ERROR none. -/
def State.construct (l : Launch) : State :=
  { gpr := l.gpr
    seg := l.seg
    ip := l.ip
    flags := l.flags
    halted := false
    haltReason := none
    error := none
    mem := l.mem
    params := l.params }

/-- The launch of `State.reset`: every value the spec leaves to the host is zero (DESIGN CHOICE, log entries 2 to 8,
unsafe), and no program is loaded (log entry 9). -/
def Launch.zero : Launch :=
  { params := Params.launch
    gpr := { ax := 0, cx := 0, dx := 0, bx := 0, sp := 0, bp := 0, si := 0, di := 0 }
    seg := { es := 0, cs := 0, ss := 0, ds := 0 }
    ip := 0
    flags := { cf := false, pf := false, af := false, zf := false, sf := false, tf := false, if_ := false,
               df := false, of_ := false }
    mem := [] }

/-- The machine right after construction (10_state.md R40). -/
def State.reset : State := State.construct Launch.zero

end Sys2Proof.Machine
end

