-- ==== Sys2Proof/Machine/Flags.lean ====
section
/-! DEFINITION. The ALU and the flags it computes (41_alu_flags.md), at any width w; the CORE uses 8 and 16. -/

namespace Sys2Proof.Machine

/-- The flags an operation writes; `none` for a flag it leaves (41_alu_flags.md). -/
structure FlagWrite where
  cf : Option Bool
  pf : Option Bool
  af : Option Bool
  zf : Option Bool
  sf : Option Bool
  of_ : Option Bool
deriving DecidableEq, Repr

/-- FLAGS <- f, only the flags that f writes (43_alu_instructions.md R200). TF, IF and DF are never written
(10_state.md R32). -/
def Flags.update (f : Flags) (u : FlagWrite) : Flags :=
  { f with
    cf := u.cf.getD f.cf
    pf := u.pf.getD f.pf
    af := u.af.getD f.af
    zf := u.zf.getD f.zf
    sf := u.sf.getD f.sf
    of_ := u.of_.getD f.of_ }

/-- The flags register as a word, for a host's display (10_state.md R34); the bits with no name show 0
(DESIGN CHOICE, log entry 15). -/
def Flags.toWord (f : Flags) : Word :=
  BitVec.ofNat 16 (f.cf.toNat + f.pf.toNat * 2 ^ 2 + f.af.toNat * 2 ^ 4 + f.zf.toNat * 2 ^ 6 + f.sf.toNat * 2 ^ 7
    + f.tf.toNat * 2 ^ 8 + f.if_.toNat * 2 ^ 9 + f.df.toNat * 2 ^ 10 + f.of_.toNat * 2 ^ 11)

/-! ### Result classification (41_alu_flags.md R130, R131) -/

/-- The number of set bits of a byte. -/
def popcount (b : Byte) : Nat :=
  b[0].toNat + b[1].toNat + b[2].toNat + b[3].toNat + b[4].toNat + b[5].toNat + b[6].toNat + b[7].toNat

/-- Parity(b) (R131). -/
def parity (b : Byte) : Bool := popcount b % 2 == 0

/-- ZF of Classify_w(r) (R130). -/
def zeroFlag {w : Nat} (r : BitVec w) : Bool := r == 0

/-- SF of Classify_w(r): the top bit (R130). -/
def signFlag {w : Nat} (r : BitVec w) : Bool := r.msb

/-- PF of Classify_w(r): it reads the low 8 bits at either width (R130, R131). -/
def parityFlag {w : Nat} (r : BitVec w) : Bool := parity (r.setWidth 8)

/-- AF: bit 4 of a^b^r at either width (R132, R135, R139). -/
def auxFlag {w : Nat} (a b r : BitVec w) : Bool := (a ^^^ b ^^^ r).getLsbD 4

/-- OF of an addition: the sign bit of (r^a) & (r^b) (R132). -/
def addOverflow {w : Nat} (a b r : BitVec w) : Bool := ((r ^^^ a) &&& (r ^^^ b)).msb

/-- OF of a subtraction: the sign bit of (r^a) & (a^b) (R133). -/
def subOverflow {w : Nat} (a b r : BitVec w) : Bool := ((r ^^^ a) &&& (a ^^^ b)).msb

/-- All six flags of an addition or subtraction (R132, R133). -/
def arithFlags {w : Nat} (cf af ov : Bool) (r : BitVec w) : FlagWrite :=
  { cf := some cf, pf := some (parityFlag r), af := some af, zf := some (zeroFlag r), sf := some (signFlag r),
    of_ := some ov }

/-- The flags of a logical result: CF and OF cleared, AF not written (R134). -/
def logicFlags {w : Nat} (r : BitVec w) : FlagWrite :=
  { cf := some false, pf := some (parityFlag r), af := none, zf := some (zeroFlag r), sf := some (signFlag r),
    of_ := some false }

/-! ### The ALU functions -/

/-- add_w (R132, R135). -/
def addW {w : Nat} (a b : BitVec w) : BitVec w × FlagWrite :=
  let t := a.toNat + b.toNat
  let r := BitVec.ofNat w t
  (r, arithFlags (decide (t > 2 ^ w - 1)) (auxFlag a b r) (addOverflow a b r) r)

/-- sub_w (R133, R135). -/
def subW {w : Nat} (a b : BitVec w) : BitVec w × FlagWrite :=
  let r := a - b
  (r, arithFlags (decide (a.toNat < b.toNat)) (auxFlag a b r) (subOverflow a b r) r)

/-- adc_w with carry-in c (R136). -/
def adcW {w : Nat} (a b : BitVec w) (c : Bool) : BitVec w × FlagWrite :=
  let t := a.toNat + b.toNat + c.toNat
  let r := BitVec.ofNat w t
  (r, arithFlags (decide (t > 2 ^ w - 1)) (auxFlag a b r) (addOverflow a b r) r)

/-- sbb_w with borrow-in c; b + c is compared unbounded (R137). -/
def sbbW {w : Nat} (a b : BitVec w) (c : Bool) : BitVec w × FlagWrite :=
  let r := a - b - BitVec.ofNat w c.toNat
  (r, arithFlags (decide (a.toNat < b.toNat + c.toNat)) (auxFlag a b r) (subOverflow a b r) r)

/-- logic_w(AND) (R134, R135). -/
def andW {w : Nat} (a b : BitVec w) : BitVec w × FlagWrite := (a &&& b, logicFlags (a &&& b))

/-- logic_w(OR) (R134, R135). -/
def orW {w : Nat} (a b : BitVec w) : BitVec w × FlagWrite := (a ||| b, logicFlags (a ||| b))

/-- logic_w(XOR) (R134, R135). -/
def xorW {w : Nat} (a b : BitVec w) : BitVec w × FlagWrite := (a ^^^ b, logicFlags (a ^^^ b))

/-- incdec16(INC, a): add16(a, 1) without CF (R138). -/
def inc16 (a : Word) : Word × FlagWrite := ((addW a 1).1, { (addW a 1).2 with cf := none })

/-- incdec16(DEC, a): sub16(a, 1) without CF (R138). -/
def dec16 (a : Word) : Word × FlagWrite := ((subW a 1).1, { (subW a 1).2 with cf := none })

/-! ### The ALU kinds (30_encoding.md R78) -/

inductive AluKind where
  | add | or | adc | sbb | and | sub | xor | cmp
deriving DecidableEq, Repr

/-- FN(a, b) of a kind, with the incoming CF for ADC and SBB (43_alu_instructions.md R210 to R257). -/
def AluKind.fn {w : Nat} (k : AluKind) (a b : BitVec w) (cf : Bool) : BitVec w × FlagWrite :=
  match k with
  | .add => addW a b
  | .or => orW a b
  | .adc => adcW a b cf
  | .sbb => sbbW a b cf
  | .and => andW a b
  | .sub => subW a b
  | .xor => xorW a b
  | .cmp => subW a b

/-- CMP writes no destination (43_alu_instructions.md R200). -/
def AluKind.writes : AluKind → Bool
  | .add => true
  | .or => true
  | .adc => true
  | .sbb => true
  | .and => true
  | .sub => true
  | .xor => true
  | .cmp => false

end Sys2Proof.Machine
end

