-- ==== Sys2Proof/WellFormed.lean ====
section
/-! DEFINITION. Which instructions have an encoding: mod 00, rm 110 is either the operand [BP] or a direct address,
as MOD00_RM110 says (40_operand_resolver.md R106). Every other operand is well formed by its type. -/

namespace Sys2Proof

/-- A memory operand that some mode byte selects under the given MOD00_RM110 (40_operand_resolver.md R103, R106). -/
def MemOperand.wf (p : Mod00Rm110) : MemOperand → Bool
  | .plain .bp => decide (p = .bpIndirect)
  | .plain _ => true
  | .disp8 _ _ => true
  | .disp16 _ _ => true
  | .direct _ => decide (p = .directDisp16)

def Rm8.wf (p : Mod00Rm110) : Rm8 → Bool
  | .reg _ => true
  | .mem m => m.wf p

def Rm16.wf (p : Mod00Rm110) : Rm16 → Bool
  | .reg _ => true
  | .mem m => m.wf p

/-- An instruction that some byte sequence encodes under the given MOD00_RM110. -/
def Instr.wf (p : Mod00Rm110) : Instr → Bool
  | .addRm8R8 rm _ => rm.wf p
  | .addRm16R16 rm _ => rm.wf p
  | .addR8Rm8 _ rm => rm.wf p
  | .addR16Rm16 _ rm => rm.wf p
  | .addAlImm8 _ => true
  | .addAxImm16 _ => true
  | .unsettled06 => true
  | .unsettled07 => true
  | .orRm8R8 rm _ => rm.wf p
  | .orRm16R16 rm _ => rm.wf p
  | .orR8Rm8 _ rm => rm.wf p
  | .orR16Rm16 _ rm => rm.wf p
  | .orAlImm8 _ => true
  | .orAxImm16 _ => true
  | .unsettled0E => true
  | .unsettled0F => true
  | .adcRm8R8 rm _ => rm.wf p
  | .adcRm16R16 rm _ => rm.wf p
  | .adcR8Rm8 _ rm => rm.wf p
  | .adcR16Rm16 _ rm => rm.wf p
  | .adcAlImm8 _ => true
  | .adcAxImm16 _ => true
  | .unsettled16 => true
  | .unsettled17 => true
  | .sbbRm8R8 rm _ => rm.wf p
  | .sbbRm16R16 rm _ => rm.wf p
  | .sbbR8Rm8 _ rm => rm.wf p
  | .sbbR16Rm16 _ rm => rm.wf p
  | .sbbAlImm8 _ => true
  | .sbbAxImm16 _ => true
  | .unsettled1E => true
  | .unsettled1F => true
  | .andRm8R8 rm _ => rm.wf p
  | .andRm16R16 rm _ => rm.wf p
  | .andR8Rm8 _ rm => rm.wf p
  | .andR16Rm16 _ rm => rm.wf p
  | .andAlImm8 _ => true
  | .andAxImm16 _ => true
  | .unimplemented26 => true
  | .daa => true
  | .subRm8R8 rm _ => rm.wf p
  | .subRm16R16 rm _ => rm.wf p
  | .subR8Rm8 _ rm => rm.wf p
  | .subR16Rm16 _ rm => rm.wf p
  | .subAlImm8 _ => true
  | .subAxImm16 _ => true
  | .unimplemented2E => true
  | .unsettled2F => true
  | .xorRm8R8 rm _ => rm.wf p
  | .xorRm16R16 rm _ => rm.wf p
  | .xorR8Rm8 _ rm => rm.wf p
  | .xorR16Rm16 _ rm => rm.wf p
  | .xorAlImm8 _ => true
  | .xorAxImm16 _ => true
  | .unimplemented36 => true
  | .unsettled37 => true
  | .cmpRm8R8 rm _ => rm.wf p
  | .cmpRm16R16 rm _ => rm.wf p
  | .cmpR8Rm8 _ rm => rm.wf p
  | .cmpR16Rm16 _ rm => rm.wf p
  | .cmpAlImm8 _ => true
  | .cmpAxImm16 _ => true
  | .unimplemented3E => true
  | .unsettled3F => true
  | .incAx => true
  | .incCx => true
  | .incDx => true
  | .incBx => true
  | .incSp => true
  | .incBp => true
  | .incSi => true
  | .incDi => true
  | .decAx => true
  | .decCx => true
  | .decDx => true
  | .decBx => true
  | .decSp => true
  | .decBp => true
  | .decSi => true
  | .decDi => true
  | .pushAx => true
  | .pushCx => true
  | .pushDx => true
  | .pushBx => true
  | .pushSp => true
  | .pushBp => true
  | .pushSi => true
  | .pushDi => true
  | .popAx => true
  | .popCx => true
  | .popDx => true
  | .popBx => true
  | .popSp => true
  | .popBp => true
  | .popSi => true
  | .popDi => true
  | .unimplemented60 => true
  | .unimplemented61 => true
  | .unimplemented62 => true
  | .unimplemented63 => true
  | .unimplemented64 => true
  | .unimplemented65 => true
  | .unimplemented66 => true
  | .unimplemented67 => true
  | .unimplemented68 => true
  | .unimplemented69 => true
  | .unimplemented6A => true
  | .unimplemented6B => true
  | .unimplemented6C => true
  | .unimplemented6D => true
  | .unimplemented6E => true
  | .unimplemented6F => true
  | .unimplemented70 => true
  | .unimplemented71 => true
  | .unimplemented72 => true
  | .unimplemented73 => true
  | .unimplemented74 => true
  | .unimplemented75 => true
  | .unimplemented76 => true
  | .unimplemented77 => true
  | .unimplemented78 => true
  | .unimplemented79 => true
  | .unimplemented7A => true
  | .unimplemented7B => true
  | .unimplemented7C => true
  | .unimplemented7D => true
  | .unimplemented7E => true
  | .unimplemented7F => true
  | .unsettled80 => true
  | .unsettled81 => true
  | .unsettled82 => true
  | .unsettled83 => true
  | .unsettled84 => true
  | .unsettled85 => true
  | .unimplemented86 => true
  | .unimplemented87 => true
  | .unimplemented88 => true
  | .unimplemented89 => true
  | .unimplemented8A => true
  | .unimplemented8B => true
  | .unimplemented8C => true
  | .unimplemented8D => true
  | .unimplemented8E => true
  | .unsettled8F => true
  | .unimplemented90 => true
  | .unimplemented91 => true
  | .unimplemented92 => true
  | .unimplemented93 => true
  | .unimplemented94 => true
  | .unimplemented95 => true
  | .unimplemented96 => true
  | .unimplemented97 => true
  | .unimplemented98 => true
  | .unimplemented99 => true
  | .unimplemented9A => true
  | .unimplemented9B => true
  | .unsettled9C => true
  | .unsettled9D => true
  | .unimplemented9E => true
  | .unimplemented9F => true
  | .unimplementedA0 => true
  | .unimplementedA1 => true
  | .unimplementedA2 => true
  | .unimplementedA3 => true
  | .unimplementedA4 => true
  | .unimplementedA5 => true
  | .unimplementedA6 => true
  | .unimplementedA7 => true
  | .unsettledA8 => true
  | .unsettledA9 => true
  | .unimplementedAA => true
  | .unimplementedAB => true
  | .unimplementedAC => true
  | .unimplementedAD => true
  | .unimplementedAE => true
  | .unimplementedAF => true
  | .unimplementedB0 => true
  | .unimplementedB1 => true
  | .unimplementedB2 => true
  | .unimplementedB3 => true
  | .unimplementedB4 => true
  | .unimplementedB5 => true
  | .unimplementedB6 => true
  | .unimplementedB7 => true
  | .unimplementedB8 => true
  | .unimplementedB9 => true
  | .unimplementedBA => true
  | .unimplementedBB => true
  | .unimplementedBC => true
  | .unimplementedBD => true
  | .unimplementedBE => true
  | .unimplementedBF => true
  | .unimplementedC0 => true
  | .unimplementedC1 => true
  | .unimplementedC2 => true
  | .unimplementedC3 => true
  | .unimplementedC4 => true
  | .unimplementedC5 => true
  | .unimplementedC6 => true
  | .unimplementedC7 => true
  | .unimplementedC8 => true
  | .unimplementedC9 => true
  | .unimplementedCA => true
  | .unimplementedCB => true
  | .unimplementedCC => true
  | .unimplementedCD => true
  | .unimplementedCE => true
  | .unimplementedCF => true
  | .unsettledD0 => true
  | .unsettledD1 => true
  | .unsettledD2 => true
  | .unsettledD3 => true
  | .unsettledD4 => true
  | .unsettledD5 => true
  | .unimplementedD6 => true
  | .unimplementedD7 => true
  | .unimplementedD8 => true
  | .unimplementedD9 => true
  | .unimplementedDA => true
  | .unimplementedDB => true
  | .unimplementedDC => true
  | .unimplementedDD => true
  | .unimplementedDE => true
  | .unimplementedDF => true
  | .unimplementedE0 => true
  | .unimplementedE1 => true
  | .unimplementedE2 => true
  | .unimplementedE3 => true
  | .unimplementedE4 => true
  | .unimplementedE5 => true
  | .unimplementedE6 => true
  | .unimplementedE7 => true
  | .unimplementedE8 => true
  | .unimplementedE9 => true
  | .unimplementedEA => true
  | .unimplementedEB => true
  | .unimplementedEC => true
  | .unimplementedED => true
  | .unimplementedEE => true
  | .unimplementedEF => true
  | .unimplementedF0 => true
  | .unimplementedF1 => true
  | .unimplementedF2 => true
  | .unimplementedF3 => true
  | .hlt => true
  | .unimplementedF5 => true
  | .unsettledF6 => true
  | .unsettledF7 => true
  | .unimplementedF8 => true
  | .unimplementedF9 => true
  | .unimplementedFA => true
  | .unimplementedFB => true
  | .unimplementedFC => true
  | .unimplementedFD => true
  | .unsettledFE => true
  | .unsettledFF => true

end Sys2Proof
end

