-- ==== Sys2Proof/Decode.lean ====
section
/-! DEFINITION. The encoding of instructions (30_encoding.md): the opcode table, the decoder over any source of bytes,
and the encoder written from the same tables. -/

namespace Sys2Proof

/-! ### Byte order (20_memory.md R58) -/

/-- `hi ++ lo` of two bytes (00_scope.md R9). -/
def joinBytes (hi lo : Byte) : Word := hi ++ lo

/-- v[7:0]. -/
def loByte (v : Word) : Byte := v.extractLsb' 0 8

/-- v[15:8]. -/
def hiByte (v : Word) : Byte := v.extractLsb' 8 8

/-! ### Register and base ids -/

/-- 10_state.md R21. -/
def Reg16.id : Reg16 → Field3
  | .ax => 0 | .cx => 1 | .dx => 2 | .bx => 3 | .sp => 4 | .bp => 5 | .si => 6 | .di => 7

/-- 10_state.md R22. -/
def Reg8.id : Reg8 → Field3
  | .al => 0 | .cl => 1 | .dl => 2 | .bl => 3 | .ah => 4 | .ch => 5 | .dh => 6 | .bh => 7

/-- The rm values of 40_operand_resolver.md R102. -/
def Base.id : Base → Field3
  | .bxSi => 0 | .bxDi => 1 | .bpSi => 2 | .bpDi => 3 | .si => 4 | .di => 5 | .bp => 6 | .bx => 7

/-- The register of a `GPR16` id (10_state.md R21). -/
def Reg16.ofId (i : Field3) : Reg16 :=
  match i.toNat with
  | 0 => .ax | 1 => .cx | 2 => .dx | 3 => .bx | 4 => .sp | 5 => .bp | 6 => .si | _ => .di

/-- The register of a `GPR8` id (10_state.md R22). -/
def Reg8.ofId (i : Field3) : Reg8 :=
  match i.toNat with
  | 0 => .al | 1 => .cl | 2 => .dl | 3 => .bl | 4 => .ah | 5 => .ch | 6 => .dh | _ => .bh

/-- The base sum of an rm value (40_operand_resolver.md R102). -/
def Base.ofId (i : Field3) : Base :=
  match i.toNat with
  | 0 => .bxSi | 1 => .bxDi | 2 => .bpSi | 3 => .bpDi | 4 => .si | 5 => .di | 6 => .bp | _ => .bx

/-! ### The opcode classes (30_encoding.md R80) -/

inductive OpClass where
  | settled
  | provisional
  | unsettled
  | unimplemented
deriving DecidableEq, Repr

/-- The SETTLED bytes of 30_encoding.md R80, as ranges. -/
def settledRanges : List (Nat × Nat) := [(0x21, 0x21), (0x31, 0x31), (0xF4, 0xF4)]

/-- The PROVISIONAL bytes of 30_encoding.md R80. -/
def provisionalRanges : List (Nat × Nat) :=
  [(0x00, 0x05), (0x08, 0x0D), (0x10, 0x15), (0x18, 0x1D), (0x20, 0x20), (0x22, 0x25), (0x28, 0x2D), (0x30, 0x30),
   (0x32, 0x35), (0x38, 0x3D), (0x40, 0x5F)]

/-- The UNSETTLED bytes of 30_encoding.md R80. -/
def unsettledRanges : List (Nat × Nat) :=
  [(0x06, 0x07), (0x0E, 0x0F), (0x16, 0x17), (0x1E, 0x1F), (0x2F, 0x2F), (0x37, 0x37), (0x3F, 0x3F), (0x80, 0x85),
   (0x8F, 0x8F), (0x9C, 0x9D), (0xA8, 0xA9), (0xD0, 0xD5), (0xF6, 0xF7), (0xFE, 0xFF)]

def inRanges (rs : List (Nat × Nat)) (n : Nat) : Bool :=
  rs.any fun r => decide (r.1 ≤ n) && decide (n ≤ r.2)

/-- class(op): UNIMPLEMENTED is every byte of no other class (30_encoding.md R80). -/
def classOf (op : Byte) : OpClass :=
  if inRanges settledRanges op.toNat then .settled
  else if inRanges provisionalRanges op.toNat then .provisional
  else if inRanges unsettledRanges op.toNat then .unsettled
  else .unimplemented

/-! ### The opcode table (30_encoding.md R81, R82) -/

/-- What an opcode-table entry says of the bytes after the opcode and of the operation. -/
inductive Shape where
  /-- An operation with no operand byte (R82: HLT, INC, DEC, PUSH, POP). -/
  | plain (i : Instr)
  /-- Width 8 with a mode byte (R79, forms 0 and 2). -/
  | mode8 (mk : Rm8 → Reg8 → Instr)
  /-- Width 16 with a mode byte (R79, forms 1 and 3). -/
  | mode16 (mk : Rm16 → Reg16 → Instr)
  /-- AL with imm8 (R79, form 4). -/
  | imm8 (mk : Byte → Instr)
  /-- AX with imm16 (R79, form 5). -/
  | imm16 (mk : Word → Instr)
  /-- No operation: the entry is unimplemented and no operand byte is fetched (R81, 42_engine.md R169). -/
  | absent (i : Instr)
  /-- The class whose entries the spec does not know; refused before any operand fetch (42_engine.md R173). -/
  | unsettled (i : Instr)

/-- Opcodes 0x00 to 0x0F. -/
def opRow0 : Vector Shape 16 :=
  #v[.mode8 .addRm8R8, .mode16 .addRm16R16, .mode8 fun rm r => .addR8Rm8 r rm, .mode16 fun rm r => .addR16Rm16 r rm,
   .imm8 .addAlImm8, .imm16 .addAxImm16, .unsettled .unsettled06, .unsettled .unsettled07,
   .mode8 .orRm8R8, .mode16 .orRm16R16, .mode8 fun rm r => .orR8Rm8 r rm, .mode16 fun rm r => .orR16Rm16 r rm,
   .imm8 .orAlImm8, .imm16 .orAxImm16, .unsettled .unsettled0E, .unsettled .unsettled0F]

/-- Opcodes 0x10 to 0x1F. -/
def opRow1 : Vector Shape 16 :=
  #v[.mode8 .adcRm8R8, .mode16 .adcRm16R16, .mode8 fun rm r => .adcR8Rm8 r rm, .mode16 fun rm r => .adcR16Rm16 r rm,
   .imm8 .adcAlImm8, .imm16 .adcAxImm16, .unsettled .unsettled16, .unsettled .unsettled17,
   .mode8 .sbbRm8R8, .mode16 .sbbRm16R16, .mode8 fun rm r => .sbbR8Rm8 r rm, .mode16 fun rm r => .sbbR16Rm16 r rm,
   .imm8 .sbbAlImm8, .imm16 .sbbAxImm16, .unsettled .unsettled1E, .unsettled .unsettled1F]

/-- Opcodes 0x20 to 0x2F. -/
def opRow2 : Vector Shape 16 :=
  #v[.mode8 .andRm8R8, .mode16 .andRm16R16, .mode8 fun rm r => .andR8Rm8 r rm, .mode16 fun rm r => .andR16Rm16 r rm,
   .imm8 .andAlImm8, .imm16 .andAxImm16, .absent .unimplemented26, .absent .daa,
   .mode8 .subRm8R8, .mode16 .subRm16R16, .mode8 fun rm r => .subR8Rm8 r rm, .mode16 fun rm r => .subR16Rm16 r rm,
   .imm8 .subAlImm8, .imm16 .subAxImm16, .absent .unimplemented2E, .unsettled .unsettled2F]

/-- Opcodes 0x30 to 0x3F. -/
def opRow3 : Vector Shape 16 :=
  #v[.mode8 .xorRm8R8, .mode16 .xorRm16R16, .mode8 fun rm r => .xorR8Rm8 r rm, .mode16 fun rm r => .xorR16Rm16 r rm,
   .imm8 .xorAlImm8, .imm16 .xorAxImm16, .absent .unimplemented36, .unsettled .unsettled37,
   .mode8 .cmpRm8R8, .mode16 .cmpRm16R16, .mode8 fun rm r => .cmpR8Rm8 r rm, .mode16 fun rm r => .cmpR16Rm16 r rm,
   .imm8 .cmpAlImm8, .imm16 .cmpAxImm16, .absent .unimplemented3E, .unsettled .unsettled3F]

/-- Opcodes 0x40 to 0x4F. -/
def opRow4 : Vector Shape 16 :=
  #v[.plain .incAx, .plain .incCx, .plain .incDx, .plain .incBx,
   .plain .incSp, .plain .incBp, .plain .incSi, .plain .incDi,
   .plain .decAx, .plain .decCx, .plain .decDx, .plain .decBx,
   .plain .decSp, .plain .decBp, .plain .decSi, .plain .decDi]

/-- Opcodes 0x50 to 0x5F. -/
def opRow5 : Vector Shape 16 :=
  #v[.plain .pushAx, .plain .pushCx, .plain .pushDx, .plain .pushBx,
   .plain .pushSp, .plain .pushBp, .plain .pushSi, .plain .pushDi,
   .plain .popAx, .plain .popCx, .plain .popDx, .plain .popBx,
   .plain .popSp, .plain .popBp, .plain .popSi, .plain .popDi]

/-- Opcodes 0x60 to 0x6F. -/
def opRow6 : Vector Shape 16 :=
  #v[.absent .unimplemented60, .absent .unimplemented61, .absent .unimplemented62, .absent .unimplemented63,
   .absent .unimplemented64, .absent .unimplemented65, .absent .unimplemented66, .absent .unimplemented67,
   .absent .unimplemented68, .absent .unimplemented69, .absent .unimplemented6A, .absent .unimplemented6B,
   .absent .unimplemented6C, .absent .unimplemented6D, .absent .unimplemented6E, .absent .unimplemented6F]

/-- Opcodes 0x70 to 0x7F. -/
def opRow7 : Vector Shape 16 :=
  #v[.absent .unimplemented70, .absent .unimplemented71, .absent .unimplemented72, .absent .unimplemented73,
   .absent .unimplemented74, .absent .unimplemented75, .absent .unimplemented76, .absent .unimplemented77,
   .absent .unimplemented78, .absent .unimplemented79, .absent .unimplemented7A, .absent .unimplemented7B,
   .absent .unimplemented7C, .absent .unimplemented7D, .absent .unimplemented7E, .absent .unimplemented7F]

/-- Opcodes 0x80 to 0x8F. -/
def opRow8 : Vector Shape 16 :=
  #v[.unsettled .unsettled80, .unsettled .unsettled81, .unsettled .unsettled82, .unsettled .unsettled83,
   .unsettled .unsettled84, .unsettled .unsettled85, .absent .unimplemented86, .absent .unimplemented87,
   .absent .unimplemented88, .absent .unimplemented89, .absent .unimplemented8A, .absent .unimplemented8B,
   .absent .unimplemented8C, .absent .unimplemented8D, .absent .unimplemented8E, .unsettled .unsettled8F]

/-- Opcodes 0x90 to 0x9F. -/
def opRow9 : Vector Shape 16 :=
  #v[.absent .unimplemented90, .absent .unimplemented91, .absent .unimplemented92, .absent .unimplemented93,
   .absent .unimplemented94, .absent .unimplemented95, .absent .unimplemented96, .absent .unimplemented97,
   .absent .unimplemented98, .absent .unimplemented99, .absent .unimplemented9A, .absent .unimplemented9B,
   .unsettled .unsettled9C, .unsettled .unsettled9D, .absent .unimplemented9E, .absent .unimplemented9F]

/-- Opcodes 0xA0 to 0xAF. -/
def opRowA : Vector Shape 16 :=
  #v[.absent .unimplementedA0, .absent .unimplementedA1, .absent .unimplementedA2, .absent .unimplementedA3,
   .absent .unimplementedA4, .absent .unimplementedA5, .absent .unimplementedA6, .absent .unimplementedA7,
   .unsettled .unsettledA8, .unsettled .unsettledA9, .absent .unimplementedAA, .absent .unimplementedAB,
   .absent .unimplementedAC, .absent .unimplementedAD, .absent .unimplementedAE, .absent .unimplementedAF]

/-- Opcodes 0xB0 to 0xBF. -/
def opRowB : Vector Shape 16 :=
  #v[.absent .unimplementedB0, .absent .unimplementedB1, .absent .unimplementedB2, .absent .unimplementedB3,
   .absent .unimplementedB4, .absent .unimplementedB5, .absent .unimplementedB6, .absent .unimplementedB7,
   .absent .unimplementedB8, .absent .unimplementedB9, .absent .unimplementedBA, .absent .unimplementedBB,
   .absent .unimplementedBC, .absent .unimplementedBD, .absent .unimplementedBE, .absent .unimplementedBF]

/-- Opcodes 0xC0 to 0xCF. -/
def opRowC : Vector Shape 16 :=
  #v[.absent .unimplementedC0, .absent .unimplementedC1, .absent .unimplementedC2, .absent .unimplementedC3,
   .absent .unimplementedC4, .absent .unimplementedC5, .absent .unimplementedC6, .absent .unimplementedC7,
   .absent .unimplementedC8, .absent .unimplementedC9, .absent .unimplementedCA, .absent .unimplementedCB,
   .absent .unimplementedCC, .absent .unimplementedCD, .absent .unimplementedCE, .absent .unimplementedCF]

/-- Opcodes 0xD0 to 0xDF. -/
def opRowD : Vector Shape 16 :=
  #v[.unsettled .unsettledD0, .unsettled .unsettledD1, .unsettled .unsettledD2, .unsettled .unsettledD3,
   .unsettled .unsettledD4, .unsettled .unsettledD5, .absent .unimplementedD6, .absent .unimplementedD7,
   .absent .unimplementedD8, .absent .unimplementedD9, .absent .unimplementedDA, .absent .unimplementedDB,
   .absent .unimplementedDC, .absent .unimplementedDD, .absent .unimplementedDE, .absent .unimplementedDF]

/-- Opcodes 0xE0 to 0xEF. -/
def opRowE : Vector Shape 16 :=
  #v[.absent .unimplementedE0, .absent .unimplementedE1, .absent .unimplementedE2, .absent .unimplementedE3,
   .absent .unimplementedE4, .absent .unimplementedE5, .absent .unimplementedE6, .absent .unimplementedE7,
   .absent .unimplementedE8, .absent .unimplementedE9, .absent .unimplementedEA, .absent .unimplementedEB,
   .absent .unimplementedEC, .absent .unimplementedED, .absent .unimplementedEE, .absent .unimplementedEF]

/-- Opcodes 0xF0 to 0xFF. -/
def opRowF : Vector Shape 16 :=
  #v[.absent .unimplementedF0, .absent .unimplementedF1, .absent .unimplementedF2, .absent .unimplementedF3,
   .plain .hlt, .absent .unimplementedF5, .unsettled .unsettledF6, .unsettled .unsettledF7,
   .absent .unimplementedF8, .absent .unimplementedF9, .absent .unimplementedFA, .absent .unimplementedFB,
   .absent .unimplementedFC, .absent .unimplementedFD, .unsettled .unsettledFE, .unsettled .unsettledFF]

/-- The 256-entry table, indexed by the opcode byte (30_encoding.md R81). -/
def opTable : Vector (Vector Shape 16) 16 :=
  #v[opRow0, opRow1, opRow2, opRow3, opRow4, opRow5, opRow6, opRow7, opRow8, opRow9, opRowA, opRowB, opRowC, opRowD, opRowE, opRowF]

/-- TABLE[op], by the high and the low digit of the opcode byte. -/
def shapeOf (op : Byte) : Shape :=
  (opTable[(op.extractLsb' 4 4).toNat]'(op.extractLsb' 4 4).isLt)[(op.extractLsb' 0 4).toNat]'(op.extractLsb' 0 4).isLt

/-- The operand-byte count L of the entry (30_encoding.md R82). The spec gives none for an UNIMPLEMENTED or UNSETTLED
entry, and an UNIMPLEMENTED opcode has no length (R71, R82): their 0 here is the model's filler, below the bound of
42_engine.md R168, and no operand byte of theirs is ever fetched (DESIGN CHOICE, log entry 25). -/
def Shape.operandCount : Shape → Nat
  | .plain _ => 0
  | .mode8 _ => 1
  | .mode16 _ => 1
  | .imm8 _ => 1
  | .imm16 _ => 2
  | .absent _ => 0
  | .unsettled _ => 0

/-- The name of an ALU kind (30_encoding.md R78). -/
def kindName (kind : Nat) : Option String :=
  ["ADD", "OR", "ADC", "SBB", "AND", "SUB", "XOR", "CMP"][kind]?

/-- The display name of an entry where the spec gives one (30_encoding.md R82); no result depends on it. -/
def displayName (op : Byte) : Option String :=
  if op = 0x27 then some "DAA"
  else if op = 0xF4 then some "HLT"
  else if classOf op = .settled ∨ classOf op = .provisional then
    if op.toNat < 0x40 then kindName (op.toNat / 8)
    else ["INC", "DEC", "PUSH", "POP"][(op.toNat - 0x40) / 8]?
  else none

/-! ### The mode byte (30_encoding.md R72 to R76) -/

/-- `mod` = m[7:6]. -/
def modField (m : Byte) : BitVec 2 := m.extractLsb' 6 2

/-- `reg` = m[5:3]. -/
def regField (m : Byte) : Field3 := m.extractLsb' 3 3

/-- `rm` = m[2:0]. -/
def rmField (m : Byte) : Field3 := m.extractLsb' 0 3

/-- DispCount(m) (40_operand_resolver.md R103). -/
def dispCount (p : Mod00Rm110) (m : Byte) : Nat :=
  match (modField m).toNat with
  | 0 => if rmField m = 0b110 ∧ p = .directDisp16 then 2 else 0
  | 1 => 1
  | 2 => 2
  | _ => 0

/-- The r/m operand of a mode byte before its width is applied (30_encoding.md R75). -/
inductive RmOperand where
  | reg (id : Field3)
  | mem (m : MemOperand)
deriving DecidableEq, Repr

def RmOperand.at8 : RmOperand → Rm8
  | .reg i => .reg (Reg8.ofId i)
  | .mem m => .mem m

def RmOperand.at16 : RmOperand → Rm16
  | .reg i => .reg (Reg16.ofId i)
  | .mem m => .mem m

/-- The 16-bit displacement, low byte at offset 2 and high byte at offset 3 (30_encoding.md R76). -/
def disp16At {ε : Type} (ib : Nat → Except ε Byte) : Except ε Word :=
  (ib 2).bind fun lo => (ib 3).bind fun hi => .ok (joinBytes hi lo)

/-- The r/m operand a mode byte selects, with the displacement bytes taken from offsets 2 and 3
(40_operand_resolver.md R103 to R106, R109). -/
def decodeRm {ε : Type} (p : Mod00Rm110) (ib : Nat → Except ε Byte) (m : Byte) : Except ε RmOperand :=
  match (modField m).toNat with
  | 0 =>
    if rmField m = 0b110 ∧ p = .directDisp16 then (disp16At ib).bind fun d => .ok (.mem (.direct d))
    else .ok (.mem (.plain (Base.ofId (rmField m))))
  | 1 => (ib 2).bind fun d => .ok (.mem (.disp8 (Base.ofId (rmField m)) d))
  | 2 => (disp16At ib).bind fun d => .ok (.mem (.disp16 (Base.ofId (rmField m)) d))
  | _ => .ok (.reg (rmField m))

/-! ### Decoding -/

/-- The instruction of opcode `op`, its further bytes taken from `ib` in increasing offset, each only if the
instruction has it (30_encoding.md R70, R71; 42_engine.md R165). The source of bytes says what a byte it cannot
give means: a list ends (`decode`), the machine raises or refuses (Machine/Fetch.lean). -/
def decodeOperands {ε : Type} (p : Mod00Rm110) (ib : Nat → Except ε Byte) (op : Byte) : Except ε Instr :=
  match shapeOf op with
  | .plain i => .ok i
  | .mode8 mk =>
    (ib 1).bind fun m => (decodeRm p ib m).bind fun rm => .ok (mk rm.at8 (Reg8.ofId (regField m)))
  | .mode16 mk =>
    (ib 1).bind fun m => (decodeRm p ib m).bind fun rm => .ok (mk rm.at16 (Reg16.ofId (regField m)))
  | .imm8 mk => (ib 1).bind fun b => .ok (mk b)
  | .imm16 mk => (ib 1).bind fun lo => (ib 2).bind fun hi => .ok (mk (joinBytes hi lo))
  | .absent i => .ok i
  | .unsettled i => .ok i

/-- Why a byte list decodes to no instruction: every opcode and every mode byte decodes (30_encoding.md R83), so
the only reason is that the list ends before the instruction does. -/
inductive DecodeReject where
  | truncated (offset : Nat)
deriving DecidableEq, Repr

/-- The byte of a list at an offset. -/
def byteAt (bytes : List Byte) (n : Nat) : Except DecodeReject Byte :=
  match bytes[n]? with
  | some b => .ok b
  | none => .error (.truncated n)

/-- The instruction at the head of a list of bytes; bytes after the instruction are not looked at. -/
def decode (p : Mod00Rm110) (bytes : List Byte) : Except DecodeReject Instr :=
  (byteAt bytes 0).bind (decodeOperands p (byteAt bytes))

/-- The longest instruction: opcode, mode byte and a 16-bit displacement (30_encoding.md R71, log entry 19). -/
def maxInstrBytes : Nat := 4

/-- The bytes of an instruction whose first `nbits` bits are `w`, bit 0 the least significant bit of the first
byte, and every later bit 0. -/
def tableBytes (nbits w : Nat) : List Byte :=
  (List.range maxInstrBytes).map fun k => BitVec.ofNat 8 ((w % 2 ^ nbits) >>> (8 * k))

/-- The instruction the decoder reads from an opcode-table word, at the reset value of MOD00_RM110. -/
def decodeTableWord (nbits w : Nat) : Option Instr :=
  match decode Params.launch.mod00Rm110 (tableBytes nbits w) with
  | .ok i => some i
  | .error _ => none

/-! ### Encoding -/

/-- mod ++ reg ++ rm (30_encoding.md R72). -/
def modeByte (mod : BitVec 2) (reg rm : Field3) : Byte := mod ++ reg ++ rm

/-- A 16-bit field of the instruction stream, low byte first (20_memory.md R58). -/
def wordBytes (v : Word) : List Byte := [loByte v, hiByte v]

/-- The mode byte and displacement bytes of a memory operand (40_operand_resolver.md R104 to R106). -/
def MemOperand.encode (reg : Field3) : MemOperand → List Byte
  | .plain b => [modeByte 0b00 reg b.id]
  | .disp8 b d => [modeByte 0b01 reg b.id, d]
  | .disp16 b d => modeByte 0b10 reg b.id :: wordBytes d
  | .direct a => modeByte 0b00 reg 0b110 :: wordBytes a

def Rm8.encode (reg : Reg8) : Rm8 → List Byte
  | .reg r => [modeByte 0b11 reg.id r.id]
  | .mem m => m.encode reg.id

def Rm16.encode (reg : Reg16) : Rm16 → List Byte
  | .reg r => [modeByte 0b11 reg.id r.id]
  | .mem m => m.encode reg.id

/-- The opcode byte of an instruction: its row of spec/opcode_table.json. -/
def Instr.opcode : Instr → Byte
  | .addRm8R8 _ _ => 0x00
  | .addRm16R16 _ _ => 0x01
  | .addR8Rm8 _ _ => 0x02
  | .addR16Rm16 _ _ => 0x03
  | .addAlImm8 _ => 0x04
  | .addAxImm16 _ => 0x05
  | .unsettled06 => 0x06
  | .unsettled07 => 0x07
  | .orRm8R8 _ _ => 0x08
  | .orRm16R16 _ _ => 0x09
  | .orR8Rm8 _ _ => 0x0A
  | .orR16Rm16 _ _ => 0x0B
  | .orAlImm8 _ => 0x0C
  | .orAxImm16 _ => 0x0D
  | .unsettled0E => 0x0E
  | .unsettled0F => 0x0F
  | .adcRm8R8 _ _ => 0x10
  | .adcRm16R16 _ _ => 0x11
  | .adcR8Rm8 _ _ => 0x12
  | .adcR16Rm16 _ _ => 0x13
  | .adcAlImm8 _ => 0x14
  | .adcAxImm16 _ => 0x15
  | .unsettled16 => 0x16
  | .unsettled17 => 0x17
  | .sbbRm8R8 _ _ => 0x18
  | .sbbRm16R16 _ _ => 0x19
  | .sbbR8Rm8 _ _ => 0x1A
  | .sbbR16Rm16 _ _ => 0x1B
  | .sbbAlImm8 _ => 0x1C
  | .sbbAxImm16 _ => 0x1D
  | .unsettled1E => 0x1E
  | .unsettled1F => 0x1F
  | .andRm8R8 _ _ => 0x20
  | .andRm16R16 _ _ => 0x21
  | .andR8Rm8 _ _ => 0x22
  | .andR16Rm16 _ _ => 0x23
  | .andAlImm8 _ => 0x24
  | .andAxImm16 _ => 0x25
  | .unimplemented26 => 0x26
  | .daa => 0x27
  | .subRm8R8 _ _ => 0x28
  | .subRm16R16 _ _ => 0x29
  | .subR8Rm8 _ _ => 0x2A
  | .subR16Rm16 _ _ => 0x2B
  | .subAlImm8 _ => 0x2C
  | .subAxImm16 _ => 0x2D
  | .unimplemented2E => 0x2E
  | .unsettled2F => 0x2F
  | .xorRm8R8 _ _ => 0x30
  | .xorRm16R16 _ _ => 0x31
  | .xorR8Rm8 _ _ => 0x32
  | .xorR16Rm16 _ _ => 0x33
  | .xorAlImm8 _ => 0x34
  | .xorAxImm16 _ => 0x35
  | .unimplemented36 => 0x36
  | .unsettled37 => 0x37
  | .cmpRm8R8 _ _ => 0x38
  | .cmpRm16R16 _ _ => 0x39
  | .cmpR8Rm8 _ _ => 0x3A
  | .cmpR16Rm16 _ _ => 0x3B
  | .cmpAlImm8 _ => 0x3C
  | .cmpAxImm16 _ => 0x3D
  | .unimplemented3E => 0x3E
  | .unsettled3F => 0x3F
  | .incAx => 0x40
  | .incCx => 0x41
  | .incDx => 0x42
  | .incBx => 0x43
  | .incSp => 0x44
  | .incBp => 0x45
  | .incSi => 0x46
  | .incDi => 0x47
  | .decAx => 0x48
  | .decCx => 0x49
  | .decDx => 0x4A
  | .decBx => 0x4B
  | .decSp => 0x4C
  | .decBp => 0x4D
  | .decSi => 0x4E
  | .decDi => 0x4F
  | .pushAx => 0x50
  | .pushCx => 0x51
  | .pushDx => 0x52
  | .pushBx => 0x53
  | .pushSp => 0x54
  | .pushBp => 0x55
  | .pushSi => 0x56
  | .pushDi => 0x57
  | .popAx => 0x58
  | .popCx => 0x59
  | .popDx => 0x5A
  | .popBx => 0x5B
  | .popSp => 0x5C
  | .popBp => 0x5D
  | .popSi => 0x5E
  | .popDi => 0x5F
  | .unimplemented60 => 0x60
  | .unimplemented61 => 0x61
  | .unimplemented62 => 0x62
  | .unimplemented63 => 0x63
  | .unimplemented64 => 0x64
  | .unimplemented65 => 0x65
  | .unimplemented66 => 0x66
  | .unimplemented67 => 0x67
  | .unimplemented68 => 0x68
  | .unimplemented69 => 0x69
  | .unimplemented6A => 0x6A
  | .unimplemented6B => 0x6B
  | .unimplemented6C => 0x6C
  | .unimplemented6D => 0x6D
  | .unimplemented6E => 0x6E
  | .unimplemented6F => 0x6F
  | .unimplemented70 => 0x70
  | .unimplemented71 => 0x71
  | .unimplemented72 => 0x72
  | .unimplemented73 => 0x73
  | .unimplemented74 => 0x74
  | .unimplemented75 => 0x75
  | .unimplemented76 => 0x76
  | .unimplemented77 => 0x77
  | .unimplemented78 => 0x78
  | .unimplemented79 => 0x79
  | .unimplemented7A => 0x7A
  | .unimplemented7B => 0x7B
  | .unimplemented7C => 0x7C
  | .unimplemented7D => 0x7D
  | .unimplemented7E => 0x7E
  | .unimplemented7F => 0x7F
  | .unsettled80 => 0x80
  | .unsettled81 => 0x81
  | .unsettled82 => 0x82
  | .unsettled83 => 0x83
  | .unsettled84 => 0x84
  | .unsettled85 => 0x85
  | .unimplemented86 => 0x86
  | .unimplemented87 => 0x87
  | .unimplemented88 => 0x88
  | .unimplemented89 => 0x89
  | .unimplemented8A => 0x8A
  | .unimplemented8B => 0x8B
  | .unimplemented8C => 0x8C
  | .unimplemented8D => 0x8D
  | .unimplemented8E => 0x8E
  | .unsettled8F => 0x8F
  | .unimplemented90 => 0x90
  | .unimplemented91 => 0x91
  | .unimplemented92 => 0x92
  | .unimplemented93 => 0x93
  | .unimplemented94 => 0x94
  | .unimplemented95 => 0x95
  | .unimplemented96 => 0x96
  | .unimplemented97 => 0x97
  | .unimplemented98 => 0x98
  | .unimplemented99 => 0x99
  | .unimplemented9A => 0x9A
  | .unimplemented9B => 0x9B
  | .unsettled9C => 0x9C
  | .unsettled9D => 0x9D
  | .unimplemented9E => 0x9E
  | .unimplemented9F => 0x9F
  | .unimplementedA0 => 0xA0
  | .unimplementedA1 => 0xA1
  | .unimplementedA2 => 0xA2
  | .unimplementedA3 => 0xA3
  | .unimplementedA4 => 0xA4
  | .unimplementedA5 => 0xA5
  | .unimplementedA6 => 0xA6
  | .unimplementedA7 => 0xA7
  | .unsettledA8 => 0xA8
  | .unsettledA9 => 0xA9
  | .unimplementedAA => 0xAA
  | .unimplementedAB => 0xAB
  | .unimplementedAC => 0xAC
  | .unimplementedAD => 0xAD
  | .unimplementedAE => 0xAE
  | .unimplementedAF => 0xAF
  | .unimplementedB0 => 0xB0
  | .unimplementedB1 => 0xB1
  | .unimplementedB2 => 0xB2
  | .unimplementedB3 => 0xB3
  | .unimplementedB4 => 0xB4
  | .unimplementedB5 => 0xB5
  | .unimplementedB6 => 0xB6
  | .unimplementedB7 => 0xB7
  | .unimplementedB8 => 0xB8
  | .unimplementedB9 => 0xB9
  | .unimplementedBA => 0xBA
  | .unimplementedBB => 0xBB
  | .unimplementedBC => 0xBC
  | .unimplementedBD => 0xBD
  | .unimplementedBE => 0xBE
  | .unimplementedBF => 0xBF
  | .unimplementedC0 => 0xC0
  | .unimplementedC1 => 0xC1
  | .unimplementedC2 => 0xC2
  | .unimplementedC3 => 0xC3
  | .unimplementedC4 => 0xC4
  | .unimplementedC5 => 0xC5
  | .unimplementedC6 => 0xC6
  | .unimplementedC7 => 0xC7
  | .unimplementedC8 => 0xC8
  | .unimplementedC9 => 0xC9
  | .unimplementedCA => 0xCA
  | .unimplementedCB => 0xCB
  | .unimplementedCC => 0xCC
  | .unimplementedCD => 0xCD
  | .unimplementedCE => 0xCE
  | .unimplementedCF => 0xCF
  | .unsettledD0 => 0xD0
  | .unsettledD1 => 0xD1
  | .unsettledD2 => 0xD2
  | .unsettledD3 => 0xD3
  | .unsettledD4 => 0xD4
  | .unsettledD5 => 0xD5
  | .unimplementedD6 => 0xD6
  | .unimplementedD7 => 0xD7
  | .unimplementedD8 => 0xD8
  | .unimplementedD9 => 0xD9
  | .unimplementedDA => 0xDA
  | .unimplementedDB => 0xDB
  | .unimplementedDC => 0xDC
  | .unimplementedDD => 0xDD
  | .unimplementedDE => 0xDE
  | .unimplementedDF => 0xDF
  | .unimplementedE0 => 0xE0
  | .unimplementedE1 => 0xE1
  | .unimplementedE2 => 0xE2
  | .unimplementedE3 => 0xE3
  | .unimplementedE4 => 0xE4
  | .unimplementedE5 => 0xE5
  | .unimplementedE6 => 0xE6
  | .unimplementedE7 => 0xE7
  | .unimplementedE8 => 0xE8
  | .unimplementedE9 => 0xE9
  | .unimplementedEA => 0xEA
  | .unimplementedEB => 0xEB
  | .unimplementedEC => 0xEC
  | .unimplementedED => 0xED
  | .unimplementedEE => 0xEE
  | .unimplementedEF => 0xEF
  | .unimplementedF0 => 0xF0
  | .unimplementedF1 => 0xF1
  | .unimplementedF2 => 0xF2
  | .unimplementedF3 => 0xF3
  | .hlt => 0xF4
  | .unimplementedF5 => 0xF5
  | .unsettledF6 => 0xF6
  | .unsettledF7 => 0xF7
  | .unimplementedF8 => 0xF8
  | .unimplementedF9 => 0xF9
  | .unimplementedFA => 0xFA
  | .unimplementedFB => 0xFB
  | .unimplementedFC => 0xFC
  | .unimplementedFD => 0xFD
  | .unsettledFE => 0xFE
  | .unsettledFF => 0xFF

/-- The operand and displacement bytes of an instruction (30_encoding.md R70, R79). -/
def Instr.operandBytes : Instr → List Byte
  | .addRm8R8 rm r => rm.encode r
  | .addRm16R16 rm r => rm.encode r
  | .addR8Rm8 r rm => rm.encode r
  | .addR16Rm16 r rm => rm.encode r
  | .addAlImm8 imm => [imm]
  | .addAxImm16 imm => wordBytes imm
  | .unsettled06 => []
  | .unsettled07 => []
  | .orRm8R8 rm r => rm.encode r
  | .orRm16R16 rm r => rm.encode r
  | .orR8Rm8 r rm => rm.encode r
  | .orR16Rm16 r rm => rm.encode r
  | .orAlImm8 imm => [imm]
  | .orAxImm16 imm => wordBytes imm
  | .unsettled0E => []
  | .unsettled0F => []
  | .adcRm8R8 rm r => rm.encode r
  | .adcRm16R16 rm r => rm.encode r
  | .adcR8Rm8 r rm => rm.encode r
  | .adcR16Rm16 r rm => rm.encode r
  | .adcAlImm8 imm => [imm]
  | .adcAxImm16 imm => wordBytes imm
  | .unsettled16 => []
  | .unsettled17 => []
  | .sbbRm8R8 rm r => rm.encode r
  | .sbbRm16R16 rm r => rm.encode r
  | .sbbR8Rm8 r rm => rm.encode r
  | .sbbR16Rm16 r rm => rm.encode r
  | .sbbAlImm8 imm => [imm]
  | .sbbAxImm16 imm => wordBytes imm
  | .unsettled1E => []
  | .unsettled1F => []
  | .andRm8R8 rm r => rm.encode r
  | .andRm16R16 rm r => rm.encode r
  | .andR8Rm8 r rm => rm.encode r
  | .andR16Rm16 r rm => rm.encode r
  | .andAlImm8 imm => [imm]
  | .andAxImm16 imm => wordBytes imm
  | .unimplemented26 => []
  | .daa => []
  | .subRm8R8 rm r => rm.encode r
  | .subRm16R16 rm r => rm.encode r
  | .subR8Rm8 r rm => rm.encode r
  | .subR16Rm16 r rm => rm.encode r
  | .subAlImm8 imm => [imm]
  | .subAxImm16 imm => wordBytes imm
  | .unimplemented2E => []
  | .unsettled2F => []
  | .xorRm8R8 rm r => rm.encode r
  | .xorRm16R16 rm r => rm.encode r
  | .xorR8Rm8 r rm => rm.encode r
  | .xorR16Rm16 r rm => rm.encode r
  | .xorAlImm8 imm => [imm]
  | .xorAxImm16 imm => wordBytes imm
  | .unimplemented36 => []
  | .unsettled37 => []
  | .cmpRm8R8 rm r => rm.encode r
  | .cmpRm16R16 rm r => rm.encode r
  | .cmpR8Rm8 r rm => rm.encode r
  | .cmpR16Rm16 r rm => rm.encode r
  | .cmpAlImm8 imm => [imm]
  | .cmpAxImm16 imm => wordBytes imm
  | .unimplemented3E => []
  | .unsettled3F => []
  | .incAx => []
  | .incCx => []
  | .incDx => []
  | .incBx => []
  | .incSp => []
  | .incBp => []
  | .incSi => []
  | .incDi => []
  | .decAx => []
  | .decCx => []
  | .decDx => []
  | .decBx => []
  | .decSp => []
  | .decBp => []
  | .decSi => []
  | .decDi => []
  | .pushAx => []
  | .pushCx => []
  | .pushDx => []
  | .pushBx => []
  | .pushSp => []
  | .pushBp => []
  | .pushSi => []
  | .pushDi => []
  | .popAx => []
  | .popCx => []
  | .popDx => []
  | .popBx => []
  | .popSp => []
  | .popBp => []
  | .popSi => []
  | .popDi => []
  | .unimplemented60 => []
  | .unimplemented61 => []
  | .unimplemented62 => []
  | .unimplemented63 => []
  | .unimplemented64 => []
  | .unimplemented65 => []
  | .unimplemented66 => []
  | .unimplemented67 => []
  | .unimplemented68 => []
  | .unimplemented69 => []
  | .unimplemented6A => []
  | .unimplemented6B => []
  | .unimplemented6C => []
  | .unimplemented6D => []
  | .unimplemented6E => []
  | .unimplemented6F => []
  | .unimplemented70 => []
  | .unimplemented71 => []
  | .unimplemented72 => []
  | .unimplemented73 => []
  | .unimplemented74 => []
  | .unimplemented75 => []
  | .unimplemented76 => []
  | .unimplemented77 => []
  | .unimplemented78 => []
  | .unimplemented79 => []
  | .unimplemented7A => []
  | .unimplemented7B => []
  | .unimplemented7C => []
  | .unimplemented7D => []
  | .unimplemented7E => []
  | .unimplemented7F => []
  | .unsettled80 => []
  | .unsettled81 => []
  | .unsettled82 => []
  | .unsettled83 => []
  | .unsettled84 => []
  | .unsettled85 => []
  | .unimplemented86 => []
  | .unimplemented87 => []
  | .unimplemented88 => []
  | .unimplemented89 => []
  | .unimplemented8A => []
  | .unimplemented8B => []
  | .unimplemented8C => []
  | .unimplemented8D => []
  | .unimplemented8E => []
  | .unsettled8F => []
  | .unimplemented90 => []
  | .unimplemented91 => []
  | .unimplemented92 => []
  | .unimplemented93 => []
  | .unimplemented94 => []
  | .unimplemented95 => []
  | .unimplemented96 => []
  | .unimplemented97 => []
  | .unimplemented98 => []
  | .unimplemented99 => []
  | .unimplemented9A => []
  | .unimplemented9B => []
  | .unsettled9C => []
  | .unsettled9D => []
  | .unimplemented9E => []
  | .unimplemented9F => []
  | .unimplementedA0 => []
  | .unimplementedA1 => []
  | .unimplementedA2 => []
  | .unimplementedA3 => []
  | .unimplementedA4 => []
  | .unimplementedA5 => []
  | .unimplementedA6 => []
  | .unimplementedA7 => []
  | .unsettledA8 => []
  | .unsettledA9 => []
  | .unimplementedAA => []
  | .unimplementedAB => []
  | .unimplementedAC => []
  | .unimplementedAD => []
  | .unimplementedAE => []
  | .unimplementedAF => []
  | .unimplementedB0 => []
  | .unimplementedB1 => []
  | .unimplementedB2 => []
  | .unimplementedB3 => []
  | .unimplementedB4 => []
  | .unimplementedB5 => []
  | .unimplementedB6 => []
  | .unimplementedB7 => []
  | .unimplementedB8 => []
  | .unimplementedB9 => []
  | .unimplementedBA => []
  | .unimplementedBB => []
  | .unimplementedBC => []
  | .unimplementedBD => []
  | .unimplementedBE => []
  | .unimplementedBF => []
  | .unimplementedC0 => []
  | .unimplementedC1 => []
  | .unimplementedC2 => []
  | .unimplementedC3 => []
  | .unimplementedC4 => []
  | .unimplementedC5 => []
  | .unimplementedC6 => []
  | .unimplementedC7 => []
  | .unimplementedC8 => []
  | .unimplementedC9 => []
  | .unimplementedCA => []
  | .unimplementedCB => []
  | .unimplementedCC => []
  | .unimplementedCD => []
  | .unimplementedCE => []
  | .unimplementedCF => []
  | .unsettledD0 => []
  | .unsettledD1 => []
  | .unsettledD2 => []
  | .unsettledD3 => []
  | .unsettledD4 => []
  | .unsettledD5 => []
  | .unimplementedD6 => []
  | .unimplementedD7 => []
  | .unimplementedD8 => []
  | .unimplementedD9 => []
  | .unimplementedDA => []
  | .unimplementedDB => []
  | .unimplementedDC => []
  | .unimplementedDD => []
  | .unimplementedDE => []
  | .unimplementedDF => []
  | .unimplementedE0 => []
  | .unimplementedE1 => []
  | .unimplementedE2 => []
  | .unimplementedE3 => []
  | .unimplementedE4 => []
  | .unimplementedE5 => []
  | .unimplementedE6 => []
  | .unimplementedE7 => []
  | .unimplementedE8 => []
  | .unimplementedE9 => []
  | .unimplementedEA => []
  | .unimplementedEB => []
  | .unimplementedEC => []
  | .unimplementedED => []
  | .unimplementedEE => []
  | .unimplementedEF => []
  | .unimplementedF0 => []
  | .unimplementedF1 => []
  | .unimplementedF2 => []
  | .unimplementedF3 => []
  | .hlt => []
  | .unimplementedF5 => []
  | .unsettledF6 => []
  | .unsettledF7 => []
  | .unimplementedF8 => []
  | .unimplementedF9 => []
  | .unimplementedFA => []
  | .unimplementedFB => []
  | .unimplementedFC => []
  | .unimplementedFD => []
  | .unsettledFE => []
  | .unsettledFF => []

/-- The bytes of an instruction (30_encoding.md R70); of an UNIMPLEMENTED or UNSETTLED one its opcode byte alone
(DESIGN CHOICE, log entry 25). -/
def encode (i : Instr) : List Byte := i.opcode :: i.operandBytes

end Sys2Proof
end

