-- ==== Sys2Proof/Machine/Ops.lean ====
section
/-! DEFINITION. The named operations over memory, registers and machine state (10_state.md, 20_memory.md R51 to R55),
and what an error, a halt and a refusal do (42_engine.md R170, R172, R182). -/

namespace Sys2Proof.Machine

/-! ### The byte store -/

/-- The byte at an address; an address with no entry reads `Config.unwrittenByte`. -/
def Memory.read : Memory → Nat → Byte
  | [], _ => Config.unwrittenByte
  | (k, b) :: rest, a => if a = k then b else if a < k then Config.unwrittenByte else Memory.read rest a

/-- An entry in front of the entries of higher addresses, left out where it says what an unlisted address reads. -/
def Memory.entry (a : Nat) (v : Byte) (rest : Memory) : Memory :=
  if v = Config.unwrittenByte then rest else (a, v) :: rest

/-- The store with the byte at an address replaced, in the canonical form. -/
def Memory.write : Memory → Nat → Byte → Memory
  | [], a, v => Memory.entry a v []
  | (k, b) :: rest, a, v =>
    if a = k then Memory.entry a v rest
    else if a < k then Memory.entry a v ((k, b) :: rest)
    else (k, b) :: Memory.write rest a v

/-- The canonical form from an address on: addresses strictly rising, no entry that an unlisted address reads as. -/
def Memory.wfFrom (lo : Nat) : Memory → Bool
  | [] => true
  | (a, b) :: rest => decide (lo ≤ a) && decide (b ≠ Config.unwrittenByte) && Memory.wfFrom (a + 1) rest

/-- The canonical form. -/
def Memory.wf (m : Memory) : Bool := Memory.wfFrom 0 m

/-- Every listed address is below a bound. -/
def Memory.below (bound : Nat) : Memory → Bool
  | [] => true
  | (a, _) :: rest => decide (a < bound) && Memory.below bound rest

/-! ### The memory interface (20_memory.md R51 to R55) -/

/-- M[a]. -/
def State.byteAt (s : State) (a : Nat) : Byte := Memory.read s.mem a

/-- M[a+1] ++ M[a] (R52). -/
def State.wordAt (s : State) (a : Nat) : Word := joinBytes (s.byteAt (a + 1)) (s.byteAt a)

/-- M[a] <- v. -/
def State.storeByte (s : State) (a : Nat) (v : Byte) : State := { s with mem := Memory.write s.mem a v }

/-- M[a] <- v[7:0]; M[a+1] <- v[15:8] (R54). -/
def State.storeWord (s : State) (a : Nat) (v : Word) : State :=
  (s.storeByte a (loByte v)).storeByte (a + 1) (hiByte v)

/-- The byte at `a` exists (R51, R53). -/
def State.byteInBounds (s : State) (a : Nat) : Bool := decide (a < s.params.memSize)

/-- The bytes at `a` and `a + 1` exist (R52, R54). -/
def State.wordInBounds (s : State) (a : Nat) : Bool :=
  decide (a < s.params.memSize) && decide (a + 1 < s.params.memSize)

/-- MemRead(a, 1) (R51). -/
def memRead8 (s : State) (a : Nat) : Except Error Byte :=
  if s.byteInBounds a then .ok (s.byteAt a) else .error (.outOfBounds a)

/-- MemRead(a, 2) (R52). -/
def memRead16 (s : State) (a : Nat) : Except Error Word :=
  if s.wordInBounds a then .ok (s.wordAt a) else .error (.outOfBounds a)

/-- MemWrite(a, 1, v) (R53). -/
def memWrite8 (s : State) (a : Nat) (v : Byte) : Except Error State :=
  if s.byteInBounds a then .ok (s.storeByte a v) else .error (.outOfBounds a)

/-- MemWrite(a, 2, v) (R54); bounds are checked before any byte moves (R55). -/
def memWrite16 (s : State) (a : Nat) (v : Word) : Except Error State :=
  if s.wordInBounds a then .ok (s.storeWord a v) else .error (.outOfBounds a)

/-! ### The register file (10_state.md R20 to R26) -/

/-- GPR16[i] (R21). -/
def State.r16 (s : State) : Reg16 → Word
  | .ax => s.gpr.ax
  | .cx => s.gpr.cx
  | .dx => s.gpr.dx
  | .bx => s.gpr.bx
  | .sp => s.gpr.sp
  | .bp => s.gpr.bp
  | .si => s.gpr.si
  | .di => s.gpr.di

/-- GPR16[i] <- v (R24). -/
def State.setR16 (s : State) (r : Reg16) (v : Word) : State :=
  match r with
  | .ax => { s with gpr := { s.gpr with ax := v } }
  | .cx => { s with gpr := { s.gpr with cx := v } }
  | .dx => { s with gpr := { s.gpr with dx := v } }
  | .bx => { s with gpr := { s.gpr with bx := v } }
  | .sp => { s with gpr := { s.gpr with sp := v } }
  | .bp => { s with gpr := { s.gpr with bp := v } }
  | .si => { s with gpr := { s.gpr with si := v } }
  | .di => { s with gpr := { s.gpr with di := v } }

/-- The register a byte register is a half of (R22). -/
def Reg8.parent : Reg8 → Reg16
  | .al => .ax
  | .cl => .cx
  | .dl => .dx
  | .bl => .bx
  | .ah => .ax
  | .ch => .cx
  | .dh => .dx
  | .bh => .bx

/-- Ids 4 to 7 are the high halves (R22). -/
def Reg8.isHigh : Reg8 → Bool
  | .al => false
  | .cl => false
  | .dl => false
  | .bl => false
  | .ah => true
  | .ch => true
  | .dh => true
  | .bh => true

/-- GPR8[i] (R22). -/
def State.r8 (s : State) (r : Reg8) : Byte :=
  if Reg8.isHigh r then hiByte (s.r16 (Reg8.parent r)) else loByte (s.r16 (Reg8.parent r))

/-- GPR8[i] <- v: only that half changes (R23). -/
def State.setR8 (s : State) (r : Reg8) (v : Byte) : State :=
  let old := s.r16 (Reg8.parent r)
  s.setR16 (Reg8.parent r) (if Reg8.isHigh r then joinBytes v (loByte old) else joinBytes (hiByte old) v)

/-- SEG[i] (R26). -/
def State.sreg (s : State) : SegReg → Word
  | .es => s.seg.es
  | .cs => s.seg.cs
  | .ss => s.seg.ss
  | .ds => s.seg.ds

/-- SEG[i] <- v (R20, R26). No instruction writes a segment register (R27); the host does, at construction. -/
def State.setSreg (s : State) (r : SegReg) (v : Word) : State :=
  match r with
  | .es => { s with seg := { s.seg with es := v } }
  | .cs => { s with seg := { s.seg with cs := v } }
  | .ss => { s with seg := { s.seg with ss := v } }
  | .ds => { s with seg := { s.seg with ds := v } }

/-! The typed get and set of the three register classes by numeric id, for the host (R20). An id that need not be in
range is checked, `fail fast` (60_exceptions.md R342). The spec's `raise` ends a step (R340), and these accessors run
outside any step: they give the error to the caller and set no ERROR (DESIGN CHOICE, log entry 16). -/

def reg16Of (id : Nat) : Except Error Reg16 :=
  if id < 8 then .ok (Reg16.ofId (BitVec.ofNat 3 id)) else .error (.invalidOperandEncoding id)

def reg8Of (id : Nat) : Except Error Reg8 :=
  if id < 8 then .ok (Reg8.ofId (BitVec.ofNat 3 id)) else .error (.invalidOperandEncoding id)

/-- The segment ids of R26; ids 4 to 7 name no register. -/
def segRegOf : Nat → Except Error SegReg
  | 0 => .ok .es
  | 1 => .ok .cs
  | 2 => .ok .ss
  | 3 => .ok .ds
  | id => .error (.invalidOperandEncoding id)

/-- GPR16[id] (R20, R21); an error goes to the caller, ERROR stays (DESIGN CHOICE, log entry 16). -/
def gpr16ById (s : State) (id : Nat) : Except Error Word := (reg16Of id).map s.r16

/-- GPR8[id] (R20, R22); an error as in `gpr16ById`. -/
def gpr8ById (s : State) (id : Nat) : Except Error Byte := (reg8Of id).map s.r8

/-- SEG[id] (R20, R26); an error as in `gpr16ById`. -/
def segById (s : State) (id : Nat) : Except Error Word := (segRegOf id).map s.sreg

/-- GPR16[id] <- v (R20, R24); an error as in `gpr16ById`. -/
def setGpr16ById (s : State) (id : Nat) (v : Word) : Except Error State := (reg16Of id).map fun r => s.setR16 r v

/-- GPR8[id] <- v (R20, R23); an error as in `gpr16ById`. -/
def setGpr8ById (s : State) (id : Nat) (v : Byte) : Except Error State := (reg8Of id).map fun r => s.setR8 r v

/-- SEG[id] <- v (R20, R26); an error as in `gpr16ById`. -/
def setSegById (s : State) (id : Nat) (v : Word) : Except Error State := (segRegOf id).map fun r => s.setSreg r v

/-- PHYS_IP = SEG[CS] * 16 + IP, without truncation (R31). -/
def State.physIp (s : State) : Nat := s.seg.cs.toNat * 16 + s.ip.toNat

/-! ### Flags, IP and the machine state -/

def State.setFlags (s : State) (f : Flags) : State := { s with flags := f }

/-- IP <- (ip0 + n) mod 2^16 (42_engine.md R167). -/
def State.advance (s : State) (n : Nat) : State := { s with ip := s.ip + BitVec.ofNat 16 n }

/-- halt(reason) (42_engine.md R170). -/
def State.halt (s : State) (reason : HaltReason) : State := { s with halted := true, haltReason := some reason }

/-- Taking an error: ERROR is set and nothing else changes; nothing is saved, no vector, no mode
(42_engine.md R182, 60_exceptions.md R348). There is no return from it (60_exceptions.md R349). -/
def State.raiseError (s : State) (e : Error) : State := { s with error := some e }

/-- The outcome of an operation on `s` whose accesses may raise: what it commits, or the error and nothing of it
(42_engine.md R182). -/
def settle (s : State) : Except Error State → Out
  | .ok t => .next t
  | .error e => .next (s.raiseError e)

/-- A PROVISIONAL opcode: refused under REFUSE, run under EXECUTE (42_engine.md R174). -/
def provisional (op : Byte) (run : State → Out) (s : State) : Out :=
  match s.params.provisionalPolicy with
  | .refuse => .refused (.provisionalOpcode op)
  | .execute => run s

/-- An UNSETTLED opcode has no rule (42_engine.md R173). -/
def refuseUnsettled (op : Byte) : Out := .refused (.unsettledOpcode op)

/-- An UNIMPLEMENTED opcode halts the machine; IP stays (42_engine.md R169). -/
def haltUnimplemented (op : Byte) (s : State) : Out := .next (s.halt (.unimplementedOpcode op))

end Sys2Proof.Machine
end

