-- ==== Sys2Proof/Machine/Operands.lean ====
section
/-! DEFINITION. The operand resolver (40_operand_resolver.md) and the addresses of data and stack (20_memory.md R61,
R62). -/

namespace Sys2Proof.Machine

/-! ### Addresses -/

/-- The base sum B, modulo 2^16 (40_operand_resolver.md R102, R107). -/
def baseSum (s : State) : Base → Word
  | .bxSi => s.gpr.bx + s.gpr.si
  | .bxDi => s.gpr.bx + s.gpr.di
  | .bpSi => s.gpr.bp + s.gpr.si
  | .bpDi => s.gpr.bp + s.gpr.di
  | .si => s.gpr.si
  | .di => s.gpr.di
  | .bp => s.gpr.bp
  | .bx => s.gpr.bx

/-- The default segment of a base sum (40_operand_resolver.md R102). -/
def baseSeg : Base → SegReg
  | .bxSi => .ds
  | .bxDi => .ds
  | .bpSi => .ss
  | .bpDi => .ss
  | .si => .ds
  | .di => .ds
  | .bp => .ss
  | .bx => .ds

/-- The effective address (40_operand_resolver.md R104 to R107); the 8-bit displacement is zero-extended (R104). -/
def effAddr (s : State) : MemOperand → Word
  | .plain b => baseSum s b
  | .disp8 b d => baseSum s b + d.setWidth 16
  | .disp16 b d => baseSum s b + d
  | .direct a => a

/-- The segment of a memory operand (40_operand_resolver.md R106, R108). -/
def operandSeg : MemOperand → SegReg
  | .plain b => baseSeg b
  | .disp8 b _ => baseSeg b
  | .disp16 b _ => baseSeg b
  | .direct _ => .ds

/-- DataPA(EA, seg) (20_memory.md R61). -/
def dataPA (s : State) (ea : Word) (seg : SegReg) : Nat :=
  match s.params.dataAddressing with
  | .flat => ea.toNat
  | .segmented => (s.sreg seg).toNat * 16 + ea.toNat

/-- StackPA(sp) (20_memory.md R62). -/
def stackPA (s : State) (sp : Word) : Nat :=
  match s.params.dataAddressing with
  | .flat => sp.toNat
  | .segmented => (s.sreg .ss).toNat * 16 + sp.toNat

/-- The physical address of a memory operand (40_operand_resolver.md R108). -/
def operandPA (s : State) (m : MemOperand) : Nat := dataPA s (effAddr s m) (operandSeg m)

/-! ### Locations (40_operand_resolver.md R100) -/

inductive Loc8 where
  | reg (r : Reg8)
  | mem (pa : Nat)
deriving DecidableEq, Repr

inductive Loc16 where
  | reg (r : Reg16)
  | mem (pa : Nat)
deriving DecidableEq, Repr

/-- ResolveRM at width 8 (40_operand_resolver.md R103 to R106); the displacement bytes stand in the operand. -/
def resolve8 (s : State) : Rm8 → Loc8
  | .reg r => .reg r
  | .mem m => .mem (operandPA s m)

/-- ResolveRM at width 16. -/
def resolve16 (s : State) : Rm16 → Loc16
  | .reg r => .reg r
  | .mem m => .mem (operandPA s m)

/-- ReadLoc at width 8 (40_operand_resolver.md R110). -/
def readLoc8 (s : State) : Loc8 → Except Error Byte
  | .reg r => .ok (s.r8 r)
  | .mem pa => memRead8 s pa

/-- ReadLoc at width 16. -/
def readLoc16 (s : State) : Loc16 → Except Error Word
  | .reg r => .ok (s.r16 r)
  | .mem pa => memRead16 s pa

/-- WriteLoc at width 8 (40_operand_resolver.md R111). -/
def writeLoc8 (s : State) (l : Loc8) (v : Byte) : Except Error State :=
  match l with
  | .reg r => .ok (s.setR8 r v)
  | .mem pa => memWrite8 s pa v

/-- WriteLoc at width 16. -/
def writeLoc16 (s : State) (l : Loc16) (v : Word) : Except Error State :=
  match l with
  | .reg r => .ok (s.setR16 r v)
  | .mem pa => memWrite16 s pa v

/-! ### The same locations without the bounds check -/

def Loc8.inBounds (s : State) : Loc8 → Bool
  | .reg _ => true
  | .mem pa => s.byteInBounds pa

def Loc16.inBounds (s : State) : Loc16 → Bool
  | .reg _ => true
  | .mem pa => s.wordInBounds pa

def Loc8.value (s : State) : Loc8 → Byte
  | .reg r => s.r8 r
  | .mem pa => s.byteAt pa

def Loc16.value (s : State) : Loc16 → Word
  | .reg r => s.r16 r
  | .mem pa => s.wordAt pa

def Loc8.put (s : State) (v : Byte) : Loc8 → State
  | .reg r => s.setR8 r v
  | .mem pa => s.storeByte pa v

def Loc16.put (s : State) (v : Word) : Loc16 → State
  | .reg r => s.setR16 r v
  | .mem pa => s.storeWord pa v

/-! ### Lengths -/

/-- The displacement bytes d of a memory operand (30_encoding.md R73). -/
def dispBytes : MemOperand → Nat
  | .plain _ => 0
  | .disp8 _ _ => 1
  | .disp16 _ _ => 2
  | .direct _ => 2

/-- The length 1 + L + d of an instruction with this r/m operand (30_encoding.md R71). -/
def rmLength8 : Rm8 → Nat
  | .reg _ => 2
  | .mem m => 2 + dispBytes m

def rmLength16 : Rm16 → Nat
  | .reg _ => 2
  | .mem m => 2 + dispBytes m

end Sys2Proof.Machine
end

