-- ==== Sys2Proof/Machine/Alu.lean ====
section
/-! DEFINITION. The ALU instructions, opcodes 0x00 to 0x3D (43_alu_instructions.md): the two templates and one
meaning for each opcode. -/

namespace Sys2Proof.Machine

/-! ### The templates -/

/-- The common part of R200 and R201: destination read before source, the kind's function, the result write unless
the kind is CMP, the flags, then IP (R202). An access that raises ends the step with nothing else committed
(42_engine.md R182). -/
def aluCommit {w : Nat} (k : AluKind) (len : Nat) (dst src : Except Error (BitVec w))
    (write : BitVec w → Except Error State) (s : State) : Out :=
  settle s (dst.bind fun a => src.bind fun b =>
    ((if k.writes then write (k.fn a b s.flags.cf).1 else .ok s).map fun t =>
      (t.setFlags (t.flags.update (k.fn a b s.flags.cf).2)).advance len))

def aluLoc8 (k : AluKind) (len : Nat) (dst src : Loc8) (s : State) : Out :=
  aluCommit k len (readLoc8 s dst) (readLoc8 s src) (writeLoc8 s dst) s

def aluLoc16 (k : AluKind) (len : Nat) (dst src : Loc16) (s : State) : Out :=
  aluCommit k len (readLoc16 s dst) (readLoc16 s src) (writeLoc16 s dst) s

/-- R200, form 0. -/
def aluRmR8 (k : AluKind) (rm : Rm8) (r : Reg8) (s : State) : Out :=
  aluLoc8 k (rmLength8 rm) (resolve8 s rm) (.reg r) s

/-- R200, form 1. -/
def aluRmR16 (k : AluKind) (rm : Rm16) (r : Reg16) (s : State) : Out :=
  aluLoc16 k (rmLength16 rm) (resolve16 s rm) (.reg r) s

/-- R200, form 2. -/
def aluRRm8 (k : AluKind) (r : Reg8) (rm : Rm8) (s : State) : Out :=
  aluLoc8 k (rmLength8 rm) (.reg r) (resolve8 s rm) s

/-- R200, form 3. -/
def aluRRm16 (k : AluKind) (r : Reg16) (rm : Rm16) (s : State) : Out :=
  aluLoc16 k (rmLength16 rm) (.reg r) (resolve16 s rm) s

/-- R201, form 4. -/
def aluAlImm (k : AluKind) (imm : Byte) (s : State) : Out :=
  aluCommit k 2 (readLoc8 s (.reg .al)) (.ok imm) (writeLoc8 s (.reg .al)) s

/-- R201, form 5. -/
def aluAxImm (k : AluKind) (imm : Word) (s : State) : Out :=
  aluCommit k 3 (readLoc16 s (.reg .ax)) (.ok imm) (writeLoc16 s (.reg .ax)) s

/-! ### ADD -/

/-- `ADD r/m8, r8` (R210). -/
def execAddRm8R8 (rm : Rm8) (r : Reg8) (s : State) : Out :=
  provisional 0x00 (aluRmR8 .add rm r) s

/-- `ADD r/m16, r16` (R211). -/
def execAddRm16R16 (rm : Rm16) (r : Reg16) (s : State) : Out :=
  provisional 0x01 (aluRmR16 .add rm r) s

/-- `ADD r8, r/m8` (R212). -/
def execAddR8Rm8 (r : Reg8) (rm : Rm8) (s : State) : Out :=
  provisional 0x02 (aluRRm8 .add r rm) s

/-- `ADD r16, r/m16` (R213). -/
def execAddR16Rm16 (r : Reg16) (rm : Rm16) (s : State) : Out :=
  provisional 0x03 (aluRRm16 .add r rm) s

/-- `ADD AL, imm8` (R214). -/
def execAddAlImm8 (imm : Byte) (s : State) : Out :=
  provisional 0x04 (aluAlImm .add imm) s

/-- `ADD AX, imm16` (R215). -/
def execAddAxImm16 (imm : Word) (s : State) : Out :=
  provisional 0x05 (aluAxImm .add imm) s

/-! ### OR -/

/-- `OR r/m8, r8` (R216). -/
def execOrRm8R8 (rm : Rm8) (r : Reg8) (s : State) : Out :=
  provisional 0x08 (aluRmR8 .or rm r) s

/-- `OR r/m16, r16` (R217). -/
def execOrRm16R16 (rm : Rm16) (r : Reg16) (s : State) : Out :=
  provisional 0x09 (aluRmR16 .or rm r) s

/-- `OR r8, r/m8` (R218). -/
def execOrR8Rm8 (r : Reg8) (rm : Rm8) (s : State) : Out :=
  provisional 0x0A (aluRRm8 .or r rm) s

/-- `OR r16, r/m16` (R219). -/
def execOrR16Rm16 (r : Reg16) (rm : Rm16) (s : State) : Out :=
  provisional 0x0B (aluRRm16 .or r rm) s

/-- `OR AL, imm8` (R220). -/
def execOrAlImm8 (imm : Byte) (s : State) : Out :=
  provisional 0x0C (aluAlImm .or imm) s

/-- `OR AX, imm16` (R221). -/
def execOrAxImm16 (imm : Word) (s : State) : Out :=
  provisional 0x0D (aluAxImm .or imm) s

/-! ### ADC -/

/-- `ADC r/m8, r8` (R222). -/
def execAdcRm8R8 (rm : Rm8) (r : Reg8) (s : State) : Out :=
  provisional 0x10 (aluRmR8 .adc rm r) s

/-- `ADC r/m16, r16` (R223). -/
def execAdcRm16R16 (rm : Rm16) (r : Reg16) (s : State) : Out :=
  provisional 0x11 (aluRmR16 .adc rm r) s

/-- `ADC r8, r/m8` (R224). -/
def execAdcR8Rm8 (r : Reg8) (rm : Rm8) (s : State) : Out :=
  provisional 0x12 (aluRRm8 .adc r rm) s

/-- `ADC r16, r/m16` (R225). -/
def execAdcR16Rm16 (r : Reg16) (rm : Rm16) (s : State) : Out :=
  provisional 0x13 (aluRRm16 .adc r rm) s

/-- `ADC AL, imm8` (R226). -/
def execAdcAlImm8 (imm : Byte) (s : State) : Out :=
  provisional 0x14 (aluAlImm .adc imm) s

/-- `ADC AX, imm16` (R227). -/
def execAdcAxImm16 (imm : Word) (s : State) : Out :=
  provisional 0x15 (aluAxImm .adc imm) s

/-! ### SBB -/

/-- `SBB r/m8, r8` (R228). -/
def execSbbRm8R8 (rm : Rm8) (r : Reg8) (s : State) : Out :=
  provisional 0x18 (aluRmR8 .sbb rm r) s

/-- `SBB r/m16, r16` (R229). -/
def execSbbRm16R16 (rm : Rm16) (r : Reg16) (s : State) : Out :=
  provisional 0x19 (aluRmR16 .sbb rm r) s

/-- `SBB r8, r/m8` (R230). -/
def execSbbR8Rm8 (r : Reg8) (rm : Rm8) (s : State) : Out :=
  provisional 0x1A (aluRRm8 .sbb r rm) s

/-- `SBB r16, r/m16` (R231). -/
def execSbbR16Rm16 (r : Reg16) (rm : Rm16) (s : State) : Out :=
  provisional 0x1B (aluRRm16 .sbb r rm) s

/-- `SBB AL, imm8` (R232). -/
def execSbbAlImm8 (imm : Byte) (s : State) : Out :=
  provisional 0x1C (aluAlImm .sbb imm) s

/-- `SBB AX, imm16` (R233). -/
def execSbbAxImm16 (imm : Word) (s : State) : Out :=
  provisional 0x1D (aluAxImm .sbb imm) s

/-! ### AND -/

/-- `AND r/m8, r8` (R234). -/
def execAndRm8R8 (rm : Rm8) (r : Reg8) (s : State) : Out :=
  provisional 0x20 (aluRmR8 .and rm r) s

/-- `AND r/m16, r16` (R235, SETTLED). -/
def execAndRm16R16 (rm : Rm16) (r : Reg16) (s : State) : Out :=
  aluRmR16 .and rm r s

/-- `AND r8, r/m8` (R236). -/
def execAndR8Rm8 (r : Reg8) (rm : Rm8) (s : State) : Out :=
  provisional 0x22 (aluRRm8 .and r rm) s

/-- `AND r16, r/m16` (R237). -/
def execAndR16Rm16 (r : Reg16) (rm : Rm16) (s : State) : Out :=
  provisional 0x23 (aluRRm16 .and r rm) s

/-- `AND AL, imm8` (R238). -/
def execAndAlImm8 (imm : Byte) (s : State) : Out :=
  provisional 0x24 (aluAlImm .and imm) s

/-- `AND AX, imm16` (R239). -/
def execAndAxImm16 (imm : Word) (s : State) : Out :=
  provisional 0x25 (aluAxImm .and imm) s

/-! ### SUB -/

/-- `SUB r/m8, r8` (R240). -/
def execSubRm8R8 (rm : Rm8) (r : Reg8) (s : State) : Out :=
  provisional 0x28 (aluRmR8 .sub rm r) s

/-- `SUB r/m16, r16` (R241). -/
def execSubRm16R16 (rm : Rm16) (r : Reg16) (s : State) : Out :=
  provisional 0x29 (aluRmR16 .sub rm r) s

/-- `SUB r8, r/m8` (R242). -/
def execSubR8Rm8 (r : Reg8) (rm : Rm8) (s : State) : Out :=
  provisional 0x2A (aluRRm8 .sub r rm) s

/-- `SUB r16, r/m16` (R243). -/
def execSubR16Rm16 (r : Reg16) (rm : Rm16) (s : State) : Out :=
  provisional 0x2B (aluRRm16 .sub r rm) s

/-- `SUB AL, imm8` (R244). -/
def execSubAlImm8 (imm : Byte) (s : State) : Out :=
  provisional 0x2C (aluAlImm .sub imm) s

/-- `SUB AX, imm16` (R245). -/
def execSubAxImm16 (imm : Word) (s : State) : Out :=
  provisional 0x2D (aluAxImm .sub imm) s

/-! ### XOR -/

/-- `XOR r/m8, r8` (R246). -/
def execXorRm8R8 (rm : Rm8) (r : Reg8) (s : State) : Out :=
  provisional 0x30 (aluRmR8 .xor rm r) s

/-- `XOR r/m16, r16` (R247, SETTLED). -/
def execXorRm16R16 (rm : Rm16) (r : Reg16) (s : State) : Out :=
  aluRmR16 .xor rm r s

/-- `XOR r8, r/m8` (R248). -/
def execXorR8Rm8 (r : Reg8) (rm : Rm8) (s : State) : Out :=
  provisional 0x32 (aluRRm8 .xor r rm) s

/-- `XOR r16, r/m16` (R249). -/
def execXorR16Rm16 (r : Reg16) (rm : Rm16) (s : State) : Out :=
  provisional 0x33 (aluRRm16 .xor r rm) s

/-- `XOR AL, imm8` (R250). -/
def execXorAlImm8 (imm : Byte) (s : State) : Out :=
  provisional 0x34 (aluAlImm .xor imm) s

/-- `XOR AX, imm16` (R251). -/
def execXorAxImm16 (imm : Word) (s : State) : Out :=
  provisional 0x35 (aluAxImm .xor imm) s

/-! ### CMP -/

/-- `CMP r/m8, r8` (R252). -/
def execCmpRm8R8 (rm : Rm8) (r : Reg8) (s : State) : Out :=
  provisional 0x38 (aluRmR8 .cmp rm r) s

/-- `CMP r/m16, r16` (R253). -/
def execCmpRm16R16 (rm : Rm16) (r : Reg16) (s : State) : Out :=
  provisional 0x39 (aluRmR16 .cmp rm r) s

/-- `CMP r8, r/m8` (R254). -/
def execCmpR8Rm8 (r : Reg8) (rm : Rm8) (s : State) : Out :=
  provisional 0x3A (aluRRm8 .cmp r rm) s

/-- `CMP r16, r/m16` (R255). -/
def execCmpR16Rm16 (r : Reg16) (rm : Rm16) (s : State) : Out :=
  provisional 0x3B (aluRRm16 .cmp r rm) s

/-- `CMP AL, imm8` (R256). -/
def execCmpAlImm8 (imm : Byte) (s : State) : Out :=
  provisional 0x3C (aluAlImm .cmp imm) s

/-- `CMP AX, imm16` (R257). -/
def execCmpAxImm16 (imm : Word) (s : State) : Out :=
  provisional 0x3D (aluAxImm .cmp imm) s

end Sys2Proof.Machine
end

