-- ==== Sys2Proof/Machine/Hlt.lean ====
section
/-! DEFINITION. HLT (42_engine.md R171). -/

namespace Sys2Proof.Machine

/-- `HLT`: the machine halts and IP advances past the byte (42_engine.md R170, R171, SETTLED). -/
def execHlt (s : State) : Out := .next ((s.halt .hlt).advance 1)

end Sys2Proof.Machine
end

