-- ==== Sys2Proof/Machine/IncDec.lean ====
section
/-! DEFINITION. INC r16 and DEC r16, opcodes 0x40 to 0x4F (44_incdec_stack.md R300, R302 to R317). -/

namespace Sys2Proof.Machine

/-- R300 with incdec16(INC). -/
def incR (r : Reg16) (s : State) : Out :=
  .next (((s.setR16 r (inc16 (s.r16 r)).1).setFlags (s.flags.update (inc16 (s.r16 r)).2)).advance 1)

/-- R300 with incdec16(DEC). -/
def decR (r : Reg16) (s : State) : Out :=
  .next (((s.setR16 r (dec16 (s.r16 r)).1).setFlags (s.flags.update (dec16 (s.r16 r)).2)).advance 1)

/-- `INC AX` (R302). -/
def execIncAx (s : State) : Out := provisional 0x40 (incR .ax) s

/-- `INC CX` (R303). -/
def execIncCx (s : State) : Out := provisional 0x41 (incR .cx) s

/-- `INC DX` (R304). -/
def execIncDx (s : State) : Out := provisional 0x42 (incR .dx) s

/-- `INC BX` (R305). -/
def execIncBx (s : State) : Out := provisional 0x43 (incR .bx) s

/-- `INC SP` (R306). -/
def execIncSp (s : State) : Out := provisional 0x44 (incR .sp) s

/-- `INC BP` (R307). -/
def execIncBp (s : State) : Out := provisional 0x45 (incR .bp) s

/-- `INC SI` (R308). -/
def execIncSi (s : State) : Out := provisional 0x46 (incR .si) s

/-- `INC DI` (R309). -/
def execIncDi (s : State) : Out := provisional 0x47 (incR .di) s

/-- `DEC AX` (R310). -/
def execDecAx (s : State) : Out := provisional 0x48 (decR .ax) s

/-- `DEC CX` (R311). -/
def execDecCx (s : State) : Out := provisional 0x49 (decR .cx) s

/-- `DEC DX` (R312). -/
def execDecDx (s : State) : Out := provisional 0x4A (decR .dx) s

/-- `DEC BX` (R313). -/
def execDecBx (s : State) : Out := provisional 0x4B (decR .bx) s

/-- `DEC SP` (R314). -/
def execDecSp (s : State) : Out := provisional 0x4C (decR .sp) s

/-- `DEC BP` (R315). -/
def execDecBp (s : State) : Out := provisional 0x4D (decR .bp) s

/-- `DEC SI` (R316). -/
def execDecSi (s : State) : Out := provisional 0x4E (decR .si) s

/-- `DEC DI` (R317). -/
def execDecDi (s : State) : Out := provisional 0x4F (decR .di) s

end Sys2Proof.Machine
end

