-- ==== Sys2Proof/Machine/Stack.lean ====
section
/-! DEFINITION. PUSH r16 and POP r16, opcodes 0x50 to 0x5F (44_incdec_stack.md R301, R318 to R333). -/

namespace Sys2Proof.Machine

/-- The stack pointer a push stores at: (SP - 2) mod 2^16 (R301). -/
def pushSp (s : State) : Word := s.r16 .sp - 2

/-- The word a push stores: PUSH SP stores the decremented SP (R301). -/
def pushValue (r : Reg16) (s : State) : Word := if r = .sp then pushSp s else s.r16 r

/-- PUSH (R301): the store, then SP. -/
def pushR (r : Reg16) (s : State) : Out :=
  settle s ((memWrite16 s (stackPA s (pushSp s)) (pushValue r s)).map fun t => (t.setR16 .sp (pushSp s)).advance 1)

/-- POP (R301): the read, then SP, then the register, which wins for POP SP. -/
def popR (r : Reg16) (s : State) : Out :=
  settle s ((memRead16 s (stackPA s (s.r16 .sp))).map fun v =>
    ((s.setR16 .sp (s.r16 .sp + 2)).setR16 r v).advance 1)

/-- `PUSH AX` (R318). -/
def execPushAx (s : State) : Out := provisional 0x50 (pushR .ax) s

/-- `PUSH CX` (R319). -/
def execPushCx (s : State) : Out := provisional 0x51 (pushR .cx) s

/-- `PUSH DX` (R320). -/
def execPushDx (s : State) : Out := provisional 0x52 (pushR .dx) s

/-- `PUSH BX` (R321). -/
def execPushBx (s : State) : Out := provisional 0x53 (pushR .bx) s

/-- `PUSH SP` (R322). -/
def execPushSp (s : State) : Out := provisional 0x54 (pushR .sp) s

/-- `PUSH BP` (R323). -/
def execPushBp (s : State) : Out := provisional 0x55 (pushR .bp) s

/-- `PUSH SI` (R324). -/
def execPushSi (s : State) : Out := provisional 0x56 (pushR .si) s

/-- `PUSH DI` (R325). -/
def execPushDi (s : State) : Out := provisional 0x57 (pushR .di) s

/-- `POP AX` (R326). -/
def execPopAx (s : State) : Out := provisional 0x58 (popR .ax) s

/-- `POP CX` (R327). -/
def execPopCx (s : State) : Out := provisional 0x59 (popR .cx) s

/-- `POP DX` (R328). -/
def execPopDx (s : State) : Out := provisional 0x5A (popR .dx) s

/-- `POP BX` (R329). -/
def execPopBx (s : State) : Out := provisional 0x5B (popR .bx) s

/-- `POP SP` (R330). -/
def execPopSp (s : State) : Out := provisional 0x5C (popR .sp) s

/-- `POP BP` (R331). -/
def execPopBp (s : State) : Out := provisional 0x5D (popR .bp) s

/-- `POP SI` (R332). -/
def execPopSi (s : State) : Out := provisional 0x5E (popR .si) s

/-- `POP DI` (R333). -/
def execPopDi (s : State) : Out := provisional 0x5F (popR .di) s

end Sys2Proof.Machine
end

