-- ==== Sys2Proof/Machine/Unimplemented.lean ====
section
/-! DEFINITION. The 143 UNIMPLEMENTED opcodes (30_encoding.md R80, 42_engine.md R169): one meaning each, so that one
can be mended without the others. -/

namespace Sys2Proof.Machine

def execUnimplemented26 (s : State) : Out := haltUnimplemented 0x26 s

/-- DAA on the 8086; unimplemented on the source's own word (30_encoding.md R80). -/
def execDaa (s : State) : Out := haltUnimplemented 0x27 s

def execUnimplemented2E (s : State) : Out := haltUnimplemented 0x2E s

def execUnimplemented36 (s : State) : Out := haltUnimplemented 0x36 s

def execUnimplemented3E (s : State) : Out := haltUnimplemented 0x3E s

def execUnimplemented60 (s : State) : Out := haltUnimplemented 0x60 s

def execUnimplemented61 (s : State) : Out := haltUnimplemented 0x61 s

def execUnimplemented62 (s : State) : Out := haltUnimplemented 0x62 s

def execUnimplemented63 (s : State) : Out := haltUnimplemented 0x63 s

def execUnimplemented64 (s : State) : Out := haltUnimplemented 0x64 s

def execUnimplemented65 (s : State) : Out := haltUnimplemented 0x65 s

def execUnimplemented66 (s : State) : Out := haltUnimplemented 0x66 s

def execUnimplemented67 (s : State) : Out := haltUnimplemented 0x67 s

def execUnimplemented68 (s : State) : Out := haltUnimplemented 0x68 s

def execUnimplemented69 (s : State) : Out := haltUnimplemented 0x69 s

def execUnimplemented6A (s : State) : Out := haltUnimplemented 0x6A s

def execUnimplemented6B (s : State) : Out := haltUnimplemented 0x6B s

def execUnimplemented6C (s : State) : Out := haltUnimplemented 0x6C s

def execUnimplemented6D (s : State) : Out := haltUnimplemented 0x6D s

def execUnimplemented6E (s : State) : Out := haltUnimplemented 0x6E s

def execUnimplemented6F (s : State) : Out := haltUnimplemented 0x6F s

def execUnimplemented70 (s : State) : Out := haltUnimplemented 0x70 s

def execUnimplemented71 (s : State) : Out := haltUnimplemented 0x71 s

def execUnimplemented72 (s : State) : Out := haltUnimplemented 0x72 s

def execUnimplemented73 (s : State) : Out := haltUnimplemented 0x73 s

def execUnimplemented74 (s : State) : Out := haltUnimplemented 0x74 s

def execUnimplemented75 (s : State) : Out := haltUnimplemented 0x75 s

def execUnimplemented76 (s : State) : Out := haltUnimplemented 0x76 s

def execUnimplemented77 (s : State) : Out := haltUnimplemented 0x77 s

def execUnimplemented78 (s : State) : Out := haltUnimplemented 0x78 s

def execUnimplemented79 (s : State) : Out := haltUnimplemented 0x79 s

def execUnimplemented7A (s : State) : Out := haltUnimplemented 0x7A s

def execUnimplemented7B (s : State) : Out := haltUnimplemented 0x7B s

def execUnimplemented7C (s : State) : Out := haltUnimplemented 0x7C s

def execUnimplemented7D (s : State) : Out := haltUnimplemented 0x7D s

def execUnimplemented7E (s : State) : Out := haltUnimplemented 0x7E s

def execUnimplemented7F (s : State) : Out := haltUnimplemented 0x7F s

def execUnimplemented86 (s : State) : Out := haltUnimplemented 0x86 s

def execUnimplemented87 (s : State) : Out := haltUnimplemented 0x87 s

def execUnimplemented88 (s : State) : Out := haltUnimplemented 0x88 s

def execUnimplemented89 (s : State) : Out := haltUnimplemented 0x89 s

def execUnimplemented8A (s : State) : Out := haltUnimplemented 0x8A s

def execUnimplemented8B (s : State) : Out := haltUnimplemented 0x8B s

def execUnimplemented8C (s : State) : Out := haltUnimplemented 0x8C s

def execUnimplemented8D (s : State) : Out := haltUnimplemented 0x8D s

def execUnimplemented8E (s : State) : Out := haltUnimplemented 0x8E s

def execUnimplemented90 (s : State) : Out := haltUnimplemented 0x90 s

def execUnimplemented91 (s : State) : Out := haltUnimplemented 0x91 s

def execUnimplemented92 (s : State) : Out := haltUnimplemented 0x92 s

def execUnimplemented93 (s : State) : Out := haltUnimplemented 0x93 s

def execUnimplemented94 (s : State) : Out := haltUnimplemented 0x94 s

def execUnimplemented95 (s : State) : Out := haltUnimplemented 0x95 s

def execUnimplemented96 (s : State) : Out := haltUnimplemented 0x96 s

def execUnimplemented97 (s : State) : Out := haltUnimplemented 0x97 s

def execUnimplemented98 (s : State) : Out := haltUnimplemented 0x98 s

def execUnimplemented99 (s : State) : Out := haltUnimplemented 0x99 s

def execUnimplemented9A (s : State) : Out := haltUnimplemented 0x9A s

def execUnimplemented9B (s : State) : Out := haltUnimplemented 0x9B s

def execUnimplemented9E (s : State) : Out := haltUnimplemented 0x9E s

def execUnimplemented9F (s : State) : Out := haltUnimplemented 0x9F s

def execUnimplementedA0 (s : State) : Out := haltUnimplemented 0xA0 s

def execUnimplementedA1 (s : State) : Out := haltUnimplemented 0xA1 s

def execUnimplementedA2 (s : State) : Out := haltUnimplemented 0xA2 s

def execUnimplementedA3 (s : State) : Out := haltUnimplemented 0xA3 s

def execUnimplementedA4 (s : State) : Out := haltUnimplemented 0xA4 s

def execUnimplementedA5 (s : State) : Out := haltUnimplemented 0xA5 s

def execUnimplementedA6 (s : State) : Out := haltUnimplemented 0xA6 s

def execUnimplementedA7 (s : State) : Out := haltUnimplemented 0xA7 s

def execUnimplementedAA (s : State) : Out := haltUnimplemented 0xAA s

def execUnimplementedAB (s : State) : Out := haltUnimplemented 0xAB s

def execUnimplementedAC (s : State) : Out := haltUnimplemented 0xAC s

def execUnimplementedAD (s : State) : Out := haltUnimplemented 0xAD s

def execUnimplementedAE (s : State) : Out := haltUnimplemented 0xAE s

def execUnimplementedAF (s : State) : Out := haltUnimplemented 0xAF s

def execUnimplementedB0 (s : State) : Out := haltUnimplemented 0xB0 s

def execUnimplementedB1 (s : State) : Out := haltUnimplemented 0xB1 s

def execUnimplementedB2 (s : State) : Out := haltUnimplemented 0xB2 s

def execUnimplementedB3 (s : State) : Out := haltUnimplemented 0xB3 s

def execUnimplementedB4 (s : State) : Out := haltUnimplemented 0xB4 s

def execUnimplementedB5 (s : State) : Out := haltUnimplemented 0xB5 s

def execUnimplementedB6 (s : State) : Out := haltUnimplemented 0xB6 s

def execUnimplementedB7 (s : State) : Out := haltUnimplemented 0xB7 s

def execUnimplementedB8 (s : State) : Out := haltUnimplemented 0xB8 s

def execUnimplementedB9 (s : State) : Out := haltUnimplemented 0xB9 s

def execUnimplementedBA (s : State) : Out := haltUnimplemented 0xBA s

def execUnimplementedBB (s : State) : Out := haltUnimplemented 0xBB s

def execUnimplementedBC (s : State) : Out := haltUnimplemented 0xBC s

def execUnimplementedBD (s : State) : Out := haltUnimplemented 0xBD s

def execUnimplementedBE (s : State) : Out := haltUnimplemented 0xBE s

def execUnimplementedBF (s : State) : Out := haltUnimplemented 0xBF s

def execUnimplementedC0 (s : State) : Out := haltUnimplemented 0xC0 s

def execUnimplementedC1 (s : State) : Out := haltUnimplemented 0xC1 s

def execUnimplementedC2 (s : State) : Out := haltUnimplemented 0xC2 s

def execUnimplementedC3 (s : State) : Out := haltUnimplemented 0xC3 s

def execUnimplementedC4 (s : State) : Out := haltUnimplemented 0xC4 s

def execUnimplementedC5 (s : State) : Out := haltUnimplemented 0xC5 s

def execUnimplementedC6 (s : State) : Out := haltUnimplemented 0xC6 s

def execUnimplementedC7 (s : State) : Out := haltUnimplemented 0xC7 s

def execUnimplementedC8 (s : State) : Out := haltUnimplemented 0xC8 s

def execUnimplementedC9 (s : State) : Out := haltUnimplemented 0xC9 s

def execUnimplementedCA (s : State) : Out := haltUnimplemented 0xCA s

def execUnimplementedCB (s : State) : Out := haltUnimplemented 0xCB s

def execUnimplementedCC (s : State) : Out := haltUnimplemented 0xCC s

def execUnimplementedCD (s : State) : Out := haltUnimplemented 0xCD s

def execUnimplementedCE (s : State) : Out := haltUnimplemented 0xCE s

def execUnimplementedCF (s : State) : Out := haltUnimplemented 0xCF s

def execUnimplementedD6 (s : State) : Out := haltUnimplemented 0xD6 s

def execUnimplementedD7 (s : State) : Out := haltUnimplemented 0xD7 s

def execUnimplementedD8 (s : State) : Out := haltUnimplemented 0xD8 s

def execUnimplementedD9 (s : State) : Out := haltUnimplemented 0xD9 s

def execUnimplementedDA (s : State) : Out := haltUnimplemented 0xDA s

def execUnimplementedDB (s : State) : Out := haltUnimplemented 0xDB s

def execUnimplementedDC (s : State) : Out := haltUnimplemented 0xDC s

def execUnimplementedDD (s : State) : Out := haltUnimplemented 0xDD s

def execUnimplementedDE (s : State) : Out := haltUnimplemented 0xDE s

def execUnimplementedDF (s : State) : Out := haltUnimplemented 0xDF s

def execUnimplementedE0 (s : State) : Out := haltUnimplemented 0xE0 s

def execUnimplementedE1 (s : State) : Out := haltUnimplemented 0xE1 s

def execUnimplementedE2 (s : State) : Out := haltUnimplemented 0xE2 s

def execUnimplementedE3 (s : State) : Out := haltUnimplemented 0xE3 s

def execUnimplementedE4 (s : State) : Out := haltUnimplemented 0xE4 s

def execUnimplementedE5 (s : State) : Out := haltUnimplemented 0xE5 s

def execUnimplementedE6 (s : State) : Out := haltUnimplemented 0xE6 s

def execUnimplementedE7 (s : State) : Out := haltUnimplemented 0xE7 s

def execUnimplementedE8 (s : State) : Out := haltUnimplemented 0xE8 s

def execUnimplementedE9 (s : State) : Out := haltUnimplemented 0xE9 s

def execUnimplementedEA (s : State) : Out := haltUnimplemented 0xEA s

def execUnimplementedEB (s : State) : Out := haltUnimplemented 0xEB s

def execUnimplementedEC (s : State) : Out := haltUnimplemented 0xEC s

def execUnimplementedED (s : State) : Out := haltUnimplemented 0xED s

def execUnimplementedEE (s : State) : Out := haltUnimplemented 0xEE s

def execUnimplementedEF (s : State) : Out := haltUnimplemented 0xEF s

def execUnimplementedF0 (s : State) : Out := haltUnimplemented 0xF0 s

def execUnimplementedF1 (s : State) : Out := haltUnimplemented 0xF1 s

def execUnimplementedF2 (s : State) : Out := haltUnimplemented 0xF2 s

def execUnimplementedF3 (s : State) : Out := haltUnimplemented 0xF3 s

def execUnimplementedF5 (s : State) : Out := haltUnimplemented 0xF5 s

def execUnimplementedF8 (s : State) : Out := haltUnimplemented 0xF8 s

def execUnimplementedF9 (s : State) : Out := haltUnimplemented 0xF9 s

def execUnimplementedFA (s : State) : Out := haltUnimplemented 0xFA s

def execUnimplementedFB (s : State) : Out := haltUnimplemented 0xFB s

def execUnimplementedFC (s : State) : Out := haltUnimplemented 0xFC s

def execUnimplementedFD (s : State) : Out := haltUnimplemented 0xFD s

end Sys2Proof.Machine
end

