-- ==== Sys2Proof/Machine/Unsettled.lean ====
section
/-! DEFINITION. The 32 UNSETTLED opcodes (30_encoding.md R80, 42_engine.md R173): one meaning each, so that one can be
mended without the others. -/

namespace Sys2Proof.Machine

def execUnsettled06 (_ : State) : Out := refuseUnsettled 0x06

def execUnsettled07 (_ : State) : Out := refuseUnsettled 0x07

def execUnsettled0E (_ : State) : Out := refuseUnsettled 0x0E

def execUnsettled0F (_ : State) : Out := refuseUnsettled 0x0F

def execUnsettled16 (_ : State) : Out := refuseUnsettled 0x16

def execUnsettled17 (_ : State) : Out := refuseUnsettled 0x17

def execUnsettled1E (_ : State) : Out := refuseUnsettled 0x1E

def execUnsettled1F (_ : State) : Out := refuseUnsettled 0x1F

def execUnsettled2F (_ : State) : Out := refuseUnsettled 0x2F

def execUnsettled37 (_ : State) : Out := refuseUnsettled 0x37

def execUnsettled3F (_ : State) : Out := refuseUnsettled 0x3F

def execUnsettled80 (_ : State) : Out := refuseUnsettled 0x80

def execUnsettled81 (_ : State) : Out := refuseUnsettled 0x81

def execUnsettled82 (_ : State) : Out := refuseUnsettled 0x82

def execUnsettled83 (_ : State) : Out := refuseUnsettled 0x83

def execUnsettled84 (_ : State) : Out := refuseUnsettled 0x84

def execUnsettled85 (_ : State) : Out := refuseUnsettled 0x85

def execUnsettled8F (_ : State) : Out := refuseUnsettled 0x8F

def execUnsettled9C (_ : State) : Out := refuseUnsettled 0x9C

def execUnsettled9D (_ : State) : Out := refuseUnsettled 0x9D

def execUnsettledA8 (_ : State) : Out := refuseUnsettled 0xA8

def execUnsettledA9 (_ : State) : Out := refuseUnsettled 0xA9

def execUnsettledD0 (_ : State) : Out := refuseUnsettled 0xD0

def execUnsettledD1 (_ : State) : Out := refuseUnsettled 0xD1

def execUnsettledD2 (_ : State) : Out := refuseUnsettled 0xD2

def execUnsettledD3 (_ : State) : Out := refuseUnsettled 0xD3

def execUnsettledD4 (_ : State) : Out := refuseUnsettled 0xD4

def execUnsettledD5 (_ : State) : Out := refuseUnsettled 0xD5

def execUnsettledF6 (_ : State) : Out := refuseUnsettled 0xF6

def execUnsettledF7 (_ : State) : Out := refuseUnsettled 0xF7

def execUnsettledFE (_ : State) : Out := refuseUnsettled 0xFE

def execUnsettledFF (_ : State) : Out := refuseUnsettled 0xFF

end Sys2Proof.Machine
end

