-- ==== Sys2Proof/Machine/Dispatch.lean ====
section
/-! DEFINITION. The meaning of each instruction, one arm per constructor (30_encoding.md R80). -/

namespace Sys2Proof.Machine

def exec (i : Instr) (s : State) : Host.Outcome State Fault Refusal :=
  match i with
  | .addRm8R8 rm r => Sys2Proof.Machine.execAddRm8R8 rm r s
  | .addRm16R16 rm r => Sys2Proof.Machine.execAddRm16R16 rm r s
  | .addR8Rm8 r rm => Sys2Proof.Machine.execAddR8Rm8 r rm s
  | .addR16Rm16 r rm => Sys2Proof.Machine.execAddR16Rm16 r rm s
  | .addAlImm8 imm => Sys2Proof.Machine.execAddAlImm8 imm s
  | .addAxImm16 imm => Sys2Proof.Machine.execAddAxImm16 imm s
  | .unsettled06 => Sys2Proof.Machine.execUnsettled06 s
  | .unsettled07 => Sys2Proof.Machine.execUnsettled07 s
  | .orRm8R8 rm r => Sys2Proof.Machine.execOrRm8R8 rm r s
  | .orRm16R16 rm r => Sys2Proof.Machine.execOrRm16R16 rm r s
  | .orR8Rm8 r rm => Sys2Proof.Machine.execOrR8Rm8 r rm s
  | .orR16Rm16 r rm => Sys2Proof.Machine.execOrR16Rm16 r rm s
  | .orAlImm8 imm => Sys2Proof.Machine.execOrAlImm8 imm s
  | .orAxImm16 imm => Sys2Proof.Machine.execOrAxImm16 imm s
  | .unsettled0E => Sys2Proof.Machine.execUnsettled0E s
  | .unsettled0F => Sys2Proof.Machine.execUnsettled0F s
  | .adcRm8R8 rm r => Sys2Proof.Machine.execAdcRm8R8 rm r s
  | .adcRm16R16 rm r => Sys2Proof.Machine.execAdcRm16R16 rm r s
  | .adcR8Rm8 r rm => Sys2Proof.Machine.execAdcR8Rm8 r rm s
  | .adcR16Rm16 r rm => Sys2Proof.Machine.execAdcR16Rm16 r rm s
  | .adcAlImm8 imm => Sys2Proof.Machine.execAdcAlImm8 imm s
  | .adcAxImm16 imm => Sys2Proof.Machine.execAdcAxImm16 imm s
  | .unsettled16 => Sys2Proof.Machine.execUnsettled16 s
  | .unsettled17 => Sys2Proof.Machine.execUnsettled17 s
  | .sbbRm8R8 rm r => Sys2Proof.Machine.execSbbRm8R8 rm r s
  | .sbbRm16R16 rm r => Sys2Proof.Machine.execSbbRm16R16 rm r s
  | .sbbR8Rm8 r rm => Sys2Proof.Machine.execSbbR8Rm8 r rm s
  | .sbbR16Rm16 r rm => Sys2Proof.Machine.execSbbR16Rm16 r rm s
  | .sbbAlImm8 imm => Sys2Proof.Machine.execSbbAlImm8 imm s
  | .sbbAxImm16 imm => Sys2Proof.Machine.execSbbAxImm16 imm s
  | .unsettled1E => Sys2Proof.Machine.execUnsettled1E s
  | .unsettled1F => Sys2Proof.Machine.execUnsettled1F s
  | .andRm8R8 rm r => Sys2Proof.Machine.execAndRm8R8 rm r s
  | .andRm16R16 rm r => Sys2Proof.Machine.execAndRm16R16 rm r s
  | .andR8Rm8 r rm => Sys2Proof.Machine.execAndR8Rm8 r rm s
  | .andR16Rm16 r rm => Sys2Proof.Machine.execAndR16Rm16 r rm s
  | .andAlImm8 imm => Sys2Proof.Machine.execAndAlImm8 imm s
  | .andAxImm16 imm => Sys2Proof.Machine.execAndAxImm16 imm s
  | .unimplemented26 => Sys2Proof.Machine.execUnimplemented26 s
  | .daa => Sys2Proof.Machine.execDaa s
  | .subRm8R8 rm r => Sys2Proof.Machine.execSubRm8R8 rm r s
  | .subRm16R16 rm r => Sys2Proof.Machine.execSubRm16R16 rm r s
  | .subR8Rm8 r rm => Sys2Proof.Machine.execSubR8Rm8 r rm s
  | .subR16Rm16 r rm => Sys2Proof.Machine.execSubR16Rm16 r rm s
  | .subAlImm8 imm => Sys2Proof.Machine.execSubAlImm8 imm s
  | .subAxImm16 imm => Sys2Proof.Machine.execSubAxImm16 imm s
  | .unimplemented2E => Sys2Proof.Machine.execUnimplemented2E s
  | .unsettled2F => Sys2Proof.Machine.execUnsettled2F s
  | .xorRm8R8 rm r => Sys2Proof.Machine.execXorRm8R8 rm r s
  | .xorRm16R16 rm r => Sys2Proof.Machine.execXorRm16R16 rm r s
  | .xorR8Rm8 r rm => Sys2Proof.Machine.execXorR8Rm8 r rm s
  | .xorR16Rm16 r rm => Sys2Proof.Machine.execXorR16Rm16 r rm s
  | .xorAlImm8 imm => Sys2Proof.Machine.execXorAlImm8 imm s
  | .xorAxImm16 imm => Sys2Proof.Machine.execXorAxImm16 imm s
  | .unimplemented36 => Sys2Proof.Machine.execUnimplemented36 s
  | .unsettled37 => Sys2Proof.Machine.execUnsettled37 s
  | .cmpRm8R8 rm r => Sys2Proof.Machine.execCmpRm8R8 rm r s
  | .cmpRm16R16 rm r => Sys2Proof.Machine.execCmpRm16R16 rm r s
  | .cmpR8Rm8 r rm => Sys2Proof.Machine.execCmpR8Rm8 r rm s
  | .cmpR16Rm16 r rm => Sys2Proof.Machine.execCmpR16Rm16 r rm s
  | .cmpAlImm8 imm => Sys2Proof.Machine.execCmpAlImm8 imm s
  | .cmpAxImm16 imm => Sys2Proof.Machine.execCmpAxImm16 imm s
  | .unimplemented3E => Sys2Proof.Machine.execUnimplemented3E s
  | .unsettled3F => Sys2Proof.Machine.execUnsettled3F s
  | .incAx => Sys2Proof.Machine.execIncAx s
  | .incCx => Sys2Proof.Machine.execIncCx s
  | .incDx => Sys2Proof.Machine.execIncDx s
  | .incBx => Sys2Proof.Machine.execIncBx s
  | .incSp => Sys2Proof.Machine.execIncSp s
  | .incBp => Sys2Proof.Machine.execIncBp s
  | .incSi => Sys2Proof.Machine.execIncSi s
  | .incDi => Sys2Proof.Machine.execIncDi s
  | .decAx => Sys2Proof.Machine.execDecAx s
  | .decCx => Sys2Proof.Machine.execDecCx s
  | .decDx => Sys2Proof.Machine.execDecDx s
  | .decBx => Sys2Proof.Machine.execDecBx s
  | .decSp => Sys2Proof.Machine.execDecSp s
  | .decBp => Sys2Proof.Machine.execDecBp s
  | .decSi => Sys2Proof.Machine.execDecSi s
  | .decDi => Sys2Proof.Machine.execDecDi s
  | .pushAx => Sys2Proof.Machine.execPushAx s
  | .pushCx => Sys2Proof.Machine.execPushCx s
  | .pushDx => Sys2Proof.Machine.execPushDx s
  | .pushBx => Sys2Proof.Machine.execPushBx s
  | .pushSp => Sys2Proof.Machine.execPushSp s
  | .pushBp => Sys2Proof.Machine.execPushBp s
  | .pushSi => Sys2Proof.Machine.execPushSi s
  | .pushDi => Sys2Proof.Machine.execPushDi s
  | .popAx => Sys2Proof.Machine.execPopAx s
  | .popCx => Sys2Proof.Machine.execPopCx s
  | .popDx => Sys2Proof.Machine.execPopDx s
  | .popBx => Sys2Proof.Machine.execPopBx s
  | .popSp => Sys2Proof.Machine.execPopSp s
  | .popBp => Sys2Proof.Machine.execPopBp s
  | .popSi => Sys2Proof.Machine.execPopSi s
  | .popDi => Sys2Proof.Machine.execPopDi s
  | .unimplemented60 => Sys2Proof.Machine.execUnimplemented60 s
  | .unimplemented61 => Sys2Proof.Machine.execUnimplemented61 s
  | .unimplemented62 => Sys2Proof.Machine.execUnimplemented62 s
  | .unimplemented63 => Sys2Proof.Machine.execUnimplemented63 s
  | .unimplemented64 => Sys2Proof.Machine.execUnimplemented64 s
  | .unimplemented65 => Sys2Proof.Machine.execUnimplemented65 s
  | .unimplemented66 => Sys2Proof.Machine.execUnimplemented66 s
  | .unimplemented67 => Sys2Proof.Machine.execUnimplemented67 s
  | .unimplemented68 => Sys2Proof.Machine.execUnimplemented68 s
  | .unimplemented69 => Sys2Proof.Machine.execUnimplemented69 s
  | .unimplemented6A => Sys2Proof.Machine.execUnimplemented6A s
  | .unimplemented6B => Sys2Proof.Machine.execUnimplemented6B s
  | .unimplemented6C => Sys2Proof.Machine.execUnimplemented6C s
  | .unimplemented6D => Sys2Proof.Machine.execUnimplemented6D s
  | .unimplemented6E => Sys2Proof.Machine.execUnimplemented6E s
  | .unimplemented6F => Sys2Proof.Machine.execUnimplemented6F s
  | .unimplemented70 => Sys2Proof.Machine.execUnimplemented70 s
  | .unimplemented71 => Sys2Proof.Machine.execUnimplemented71 s
  | .unimplemented72 => Sys2Proof.Machine.execUnimplemented72 s
  | .unimplemented73 => Sys2Proof.Machine.execUnimplemented73 s
  | .unimplemented74 => Sys2Proof.Machine.execUnimplemented74 s
  | .unimplemented75 => Sys2Proof.Machine.execUnimplemented75 s
  | .unimplemented76 => Sys2Proof.Machine.execUnimplemented76 s
  | .unimplemented77 => Sys2Proof.Machine.execUnimplemented77 s
  | .unimplemented78 => Sys2Proof.Machine.execUnimplemented78 s
  | .unimplemented79 => Sys2Proof.Machine.execUnimplemented79 s
  | .unimplemented7A => Sys2Proof.Machine.execUnimplemented7A s
  | .unimplemented7B => Sys2Proof.Machine.execUnimplemented7B s
  | .unimplemented7C => Sys2Proof.Machine.execUnimplemented7C s
  | .unimplemented7D => Sys2Proof.Machine.execUnimplemented7D s
  | .unimplemented7E => Sys2Proof.Machine.execUnimplemented7E s
  | .unimplemented7F => Sys2Proof.Machine.execUnimplemented7F s
  | .unsettled80 => Sys2Proof.Machine.execUnsettled80 s
  | .unsettled81 => Sys2Proof.Machine.execUnsettled81 s
  | .unsettled82 => Sys2Proof.Machine.execUnsettled82 s
  | .unsettled83 => Sys2Proof.Machine.execUnsettled83 s
  | .unsettled84 => Sys2Proof.Machine.execUnsettled84 s
  | .unsettled85 => Sys2Proof.Machine.execUnsettled85 s
  | .unimplemented86 => Sys2Proof.Machine.execUnimplemented86 s
  | .unimplemented87 => Sys2Proof.Machine.execUnimplemented87 s
  | .unimplemented88 => Sys2Proof.Machine.execUnimplemented88 s
  | .unimplemented89 => Sys2Proof.Machine.execUnimplemented89 s
  | .unimplemented8A => Sys2Proof.Machine.execUnimplemented8A s
  | .unimplemented8B => Sys2Proof.Machine.execUnimplemented8B s
  | .unimplemented8C => Sys2Proof.Machine.execUnimplemented8C s
  | .unimplemented8D => Sys2Proof.Machine.execUnimplemented8D s
  | .unimplemented8E => Sys2Proof.Machine.execUnimplemented8E s
  | .unsettled8F => Sys2Proof.Machine.execUnsettled8F s
  | .unimplemented90 => Sys2Proof.Machine.execUnimplemented90 s
  | .unimplemented91 => Sys2Proof.Machine.execUnimplemented91 s
  | .unimplemented92 => Sys2Proof.Machine.execUnimplemented92 s
  | .unimplemented93 => Sys2Proof.Machine.execUnimplemented93 s
  | .unimplemented94 => Sys2Proof.Machine.execUnimplemented94 s
  | .unimplemented95 => Sys2Proof.Machine.execUnimplemented95 s
  | .unimplemented96 => Sys2Proof.Machine.execUnimplemented96 s
  | .unimplemented97 => Sys2Proof.Machine.execUnimplemented97 s
  | .unimplemented98 => Sys2Proof.Machine.execUnimplemented98 s
  | .unimplemented99 => Sys2Proof.Machine.execUnimplemented99 s
  | .unimplemented9A => Sys2Proof.Machine.execUnimplemented9A s
  | .unimplemented9B => Sys2Proof.Machine.execUnimplemented9B s
  | .unsettled9C => Sys2Proof.Machine.execUnsettled9C s
  | .unsettled9D => Sys2Proof.Machine.execUnsettled9D s
  | .unimplemented9E => Sys2Proof.Machine.execUnimplemented9E s
  | .unimplemented9F => Sys2Proof.Machine.execUnimplemented9F s
  | .unimplementedA0 => Sys2Proof.Machine.execUnimplementedA0 s
  | .unimplementedA1 => Sys2Proof.Machine.execUnimplementedA1 s
  | .unimplementedA2 => Sys2Proof.Machine.execUnimplementedA2 s
  | .unimplementedA3 => Sys2Proof.Machine.execUnimplementedA3 s
  | .unimplementedA4 => Sys2Proof.Machine.execUnimplementedA4 s
  | .unimplementedA5 => Sys2Proof.Machine.execUnimplementedA5 s
  | .unimplementedA6 => Sys2Proof.Machine.execUnimplementedA6 s
  | .unimplementedA7 => Sys2Proof.Machine.execUnimplementedA7 s
  | .unsettledA8 => Sys2Proof.Machine.execUnsettledA8 s
  | .unsettledA9 => Sys2Proof.Machine.execUnsettledA9 s
  | .unimplementedAA => Sys2Proof.Machine.execUnimplementedAA s
  | .unimplementedAB => Sys2Proof.Machine.execUnimplementedAB s
  | .unimplementedAC => Sys2Proof.Machine.execUnimplementedAC s
  | .unimplementedAD => Sys2Proof.Machine.execUnimplementedAD s
  | .unimplementedAE => Sys2Proof.Machine.execUnimplementedAE s
  | .unimplementedAF => Sys2Proof.Machine.execUnimplementedAF s
  | .unimplementedB0 => Sys2Proof.Machine.execUnimplementedB0 s
  | .unimplementedB1 => Sys2Proof.Machine.execUnimplementedB1 s
  | .unimplementedB2 => Sys2Proof.Machine.execUnimplementedB2 s
  | .unimplementedB3 => Sys2Proof.Machine.execUnimplementedB3 s
  | .unimplementedB4 => Sys2Proof.Machine.execUnimplementedB4 s
  | .unimplementedB5 => Sys2Proof.Machine.execUnimplementedB5 s
  | .unimplementedB6 => Sys2Proof.Machine.execUnimplementedB6 s
  | .unimplementedB7 => Sys2Proof.Machine.execUnimplementedB7 s
  | .unimplementedB8 => Sys2Proof.Machine.execUnimplementedB8 s
  | .unimplementedB9 => Sys2Proof.Machine.execUnimplementedB9 s
  | .unimplementedBA => Sys2Proof.Machine.execUnimplementedBA s
  | .unimplementedBB => Sys2Proof.Machine.execUnimplementedBB s
  | .unimplementedBC => Sys2Proof.Machine.execUnimplementedBC s
  | .unimplementedBD => Sys2Proof.Machine.execUnimplementedBD s
  | .unimplementedBE => Sys2Proof.Machine.execUnimplementedBE s
  | .unimplementedBF => Sys2Proof.Machine.execUnimplementedBF s
  | .unimplementedC0 => Sys2Proof.Machine.execUnimplementedC0 s
  | .unimplementedC1 => Sys2Proof.Machine.execUnimplementedC1 s
  | .unimplementedC2 => Sys2Proof.Machine.execUnimplementedC2 s
  | .unimplementedC3 => Sys2Proof.Machine.execUnimplementedC3 s
  | .unimplementedC4 => Sys2Proof.Machine.execUnimplementedC4 s
  | .unimplementedC5 => Sys2Proof.Machine.execUnimplementedC5 s
  | .unimplementedC6 => Sys2Proof.Machine.execUnimplementedC6 s
  | .unimplementedC7 => Sys2Proof.Machine.execUnimplementedC7 s
  | .unimplementedC8 => Sys2Proof.Machine.execUnimplementedC8 s
  | .unimplementedC9 => Sys2Proof.Machine.execUnimplementedC9 s
  | .unimplementedCA => Sys2Proof.Machine.execUnimplementedCA s
  | .unimplementedCB => Sys2Proof.Machine.execUnimplementedCB s
  | .unimplementedCC => Sys2Proof.Machine.execUnimplementedCC s
  | .unimplementedCD => Sys2Proof.Machine.execUnimplementedCD s
  | .unimplementedCE => Sys2Proof.Machine.execUnimplementedCE s
  | .unimplementedCF => Sys2Proof.Machine.execUnimplementedCF s
  | .unsettledD0 => Sys2Proof.Machine.execUnsettledD0 s
  | .unsettledD1 => Sys2Proof.Machine.execUnsettledD1 s
  | .unsettledD2 => Sys2Proof.Machine.execUnsettledD2 s
  | .unsettledD3 => Sys2Proof.Machine.execUnsettledD3 s
  | .unsettledD4 => Sys2Proof.Machine.execUnsettledD4 s
  | .unsettledD5 => Sys2Proof.Machine.execUnsettledD5 s
  | .unimplementedD6 => Sys2Proof.Machine.execUnimplementedD6 s
  | .unimplementedD7 => Sys2Proof.Machine.execUnimplementedD7 s
  | .unimplementedD8 => Sys2Proof.Machine.execUnimplementedD8 s
  | .unimplementedD9 => Sys2Proof.Machine.execUnimplementedD9 s
  | .unimplementedDA => Sys2Proof.Machine.execUnimplementedDA s
  | .unimplementedDB => Sys2Proof.Machine.execUnimplementedDB s
  | .unimplementedDC => Sys2Proof.Machine.execUnimplementedDC s
  | .unimplementedDD => Sys2Proof.Machine.execUnimplementedDD s
  | .unimplementedDE => Sys2Proof.Machine.execUnimplementedDE s
  | .unimplementedDF => Sys2Proof.Machine.execUnimplementedDF s
  | .unimplementedE0 => Sys2Proof.Machine.execUnimplementedE0 s
  | .unimplementedE1 => Sys2Proof.Machine.execUnimplementedE1 s
  | .unimplementedE2 => Sys2Proof.Machine.execUnimplementedE2 s
  | .unimplementedE3 => Sys2Proof.Machine.execUnimplementedE3 s
  | .unimplementedE4 => Sys2Proof.Machine.execUnimplementedE4 s
  | .unimplementedE5 => Sys2Proof.Machine.execUnimplementedE5 s
  | .unimplementedE6 => Sys2Proof.Machine.execUnimplementedE6 s
  | .unimplementedE7 => Sys2Proof.Machine.execUnimplementedE7 s
  | .unimplementedE8 => Sys2Proof.Machine.execUnimplementedE8 s
  | .unimplementedE9 => Sys2Proof.Machine.execUnimplementedE9 s
  | .unimplementedEA => Sys2Proof.Machine.execUnimplementedEA s
  | .unimplementedEB => Sys2Proof.Machine.execUnimplementedEB s
  | .unimplementedEC => Sys2Proof.Machine.execUnimplementedEC s
  | .unimplementedED => Sys2Proof.Machine.execUnimplementedED s
  | .unimplementedEE => Sys2Proof.Machine.execUnimplementedEE s
  | .unimplementedEF => Sys2Proof.Machine.execUnimplementedEF s
  | .unimplementedF0 => Sys2Proof.Machine.execUnimplementedF0 s
  | .unimplementedF1 => Sys2Proof.Machine.execUnimplementedF1 s
  | .unimplementedF2 => Sys2Proof.Machine.execUnimplementedF2 s
  | .unimplementedF3 => Sys2Proof.Machine.execUnimplementedF3 s
  | .hlt => Sys2Proof.Machine.execHlt s
  | .unimplementedF5 => Sys2Proof.Machine.execUnimplementedF5 s
  | .unsettledF6 => Sys2Proof.Machine.execUnsettledF6 s
  | .unsettledF7 => Sys2Proof.Machine.execUnsettledF7 s
  | .unimplementedF8 => Sys2Proof.Machine.execUnimplementedF8 s
  | .unimplementedF9 => Sys2Proof.Machine.execUnimplementedF9 s
  | .unimplementedFA => Sys2Proof.Machine.execUnimplementedFA s
  | .unimplementedFB => Sys2Proof.Machine.execUnimplementedFB s
  | .unimplementedFC => Sys2Proof.Machine.execUnimplementedFC s
  | .unimplementedFD => Sys2Proof.Machine.execUnimplementedFD s
  | .unsettledFE => Sys2Proof.Machine.execUnsettledFE s
  | .unsettledFF => Sys2Proof.Machine.execUnsettledFF s

end Sys2Proof.Machine
end

