-- ==== Sys2Proof/Machine/Fetch.lean ====
section
/-! DEFINITION. The instruction fetch unit (42_engine.md R162 to R165): when a step happens, which bytes it fetches in
which order, and what ends it before an instruction runs. -/

namespace Sys2Proof.Machine

/-- The state in which no step happens, if the machine is in one (42_engine.md R160, R161). -/
def notRunning (s : State) : Option Fault :=
  match s.error with
  | some e => some (.errored e)
  | none => if s.halted then some (.halted s.haltReason) else none

/-- What ends a step before an instruction runs. -/
inductive Stop where
  | raise (e : Error)
  | refuse (r : Refusal)
  | halt (r : HaltReason)
deriving DecidableEq, Repr

/-- The outcome of a step that ended so (42_engine.md R168, R172, R182). -/
def stopOutcome (s : State) : Stop → Out
  | .raise e => .next (s.raiseError e)
  | .refuse r => .refused r
  | .halt r => .next (s.halt r)

/-- IB(n), the byte at offset n of the current instruction (42_engine.md R163). -/
def instrByte (s : State) (n : Nat) : Except Stop Byte :=
  if s.ip.toNat + n > 0xFFFF then .error (.refuse (.instructionCrossesSegmentEnd s.ip n))
  else
    match memRead8 s (s.physIp + n) with
    | .ok b => .ok b
    | .error e => .error (.raise e)

/-- The refusal of an opcode's class, decided before any operand fetch (42_engine.md R162, R173, R174). -/
def classRefusal (s : State) (op : Byte) : Option Refusal :=
  match classOf op with
  | .unsettled => some (.unsettledOpcode op)
  | .provisional =>
    match s.params.provisionalPolicy with
    | .refuse => some (.provisionalOpcode op)
    | .execute => none
  | .settled => none
  | .unimplemented => none

/-- The most operand bytes an entry may declare (42_engine.md R168). -/
def maxOperandCount : Nat := 4

/-- The fetch part of Step() (42_engine.md R162): the opcode, the refusals of its class, the check of its operand
count, its operand bytes and displacement bytes (20_memory.md R66, items 1 to 3). -/
def fetchInstr (s : State) : Except Stop Instr :=
  (instrByte s 0).bind fun op =>
    match classRefusal s op with
    | some r => .error (.refuse r)
    | none =>
      if (shapeOf op).operandCount > maxOperandCount then .error (.halt (.unsupportedOperandCount op))
      else decodeOperands s.params.mod00Rm110 (instrByte s) op

/-- The bytes placed from an address on; an address that does not exist takes none. -/
def placeBytes (s : State) (a : Nat) : List Byte → State
  | [] => s
  | b :: rest => placeBytes (if s.byteInBounds a then s.storeByte a b else s) (a + 1) rest

end Sys2Proof.Machine
end

