-- ==== Sys2Proof/Machine/Step.lean ====
section
/-! DEFINITION. One step of the machine (42_engine.md R162). -/

namespace Sys2Proof.Machine

/-- Step(): only when Running (42_engine.md R161); the fetch, then the instruction, which advances IP itself
(R167). -/
def step (s : State) : Host.Outcome State Fault Refusal :=
  match notRunning s with
  | some f => .fault f
  | none =>
    match fetchInstr s with
    | .ok i => exec i s
    | .error stop => stopOutcome s stop

/-- A program's load: the bytes of a table word where the next step fetches (70_reset_and_hazards.md R380; log
entry 9). -/
def State.withFetchWord (s : State) (nbits w : Nat) : State := placeBytes s s.physIp (tableBytes nbits w)

end Sys2Proof.Machine
end

