-- ==== Sys2Proof/Machine/Run.lean ====
section
/-! DEFINITION. The host's entry point `run` (42_engine.md R176 to R179). -/

namespace Sys2Proof.Machine

/-- What `run` reports (42_engine.md R172, R178). -/
inductive RunReport where
  | halted (reason : Option HaltReason)
  | stepLimitReached
  | error (e : Error)
  | refused (r : Refusal)
deriving DecidableEq, Repr

/-- The report of a machine that is not Running (42_engine.md R176 to R178). -/
def faultReport : Fault → RunReport
  | .halted r => .halted r
  | .errored e => .error e

/-- run(max_steps) (42_engine.md R176): the report, and the machine the host then reads (70_reset_and_hazards.md
R384). A refused step makes the whole run refused; the state beside that report is the one before the refused step
(DESIGN CHOICE, log entry 20). -/
def run : Nat → State → RunReport × State
  | 0, s =>
    match notRunning s with
    | some f => (faultReport f, s)
    | none => (.stepLimitReached, s)
  | n + 1, s =>
    match step s with
    | .next t => run n t
    | .fault f => (faultReport f, s)
    | .refused r => (.refused r, s)

end Sys2Proof.Machine
end

