-- ==== Sys2Proof/Safety.lean ====
section
/-! DEFINITION. The terms the statements use: a running machine, the invariant of its states, which opcodes may run,
the instructions by family, and the state an instruction is to leave. -/

namespace Sys2Proof.Machine

/-! ### States -/

/-- The state Running (42_engine.md R160). -/
def State.Running (s : State) : Prop := s.error = none ∧ s.halted = false

/-- An opcode whose step is not refused by its class (42_engine.md R162, R173, R174). -/
def State.MayRun (s : State) (op : Byte) : Prop :=
  classOf op = .settled ∨ classOf op = .unimplemented ∨
    (classOf op = .provisional ∧ s.params.provisionalPolicy = .execute)

/-- The invariant of the model's states: memory is in the canonical form (log entry 8) and lies in [0, MEM_SIZE)
(20_memory.md R50), a reason is recorded exactly when the machine is halted (10_state.md R36), and MEM_SIZE is at
least 1 (00_scope.md R7). -/
structure State.Inv (s : State) : Prop where
  memCanonical : Memory.wf s.mem = true
  memInRange : Memory.below s.params.memSize s.mem = true
  reasonIffHalted : s.haltReason.isSome = s.halted
  paramsWf : s.params.wf = true

/-- The bytes of memory from an address on. -/
def State.Holds (s : State) (a : Nat) (bytes : List Byte) : Prop :=
  ∀ k b, bytes[k]? = some b → s.byteAt (a + k) = b

/-- The next `n` bytes of the code segment exist and do not cross offset 0xFFFF (42_engine.md R163). -/
def State.CodeFits (s : State) (n : Nat) : Prop :=
  s.ip.toNat + n ≤ 0x10000 ∧ s.physIp + n ≤ s.params.memSize

/-- A step that neither stops the run nor raises an error: what a claim about a safe run asks of each step. -/
def State.SafeStep (s : State) : Prop := ∃ t, step s = .next t ∧ t.error = none

/-- What no ALU, INC, DEC, PUSH or POP writes: segment registers, TF, IF, DF, the machine state, the parameters
(10_state.md R27, R32). -/
def KeepsSystem (s t : State) : Prop :=
  t.seg = s.seg ∧ t.flags.tf = s.flags.tf ∧ t.flags.if_ = s.flags.if_ ∧ t.flags.df = s.flags.df ∧
    t.halted = s.halted ∧ t.haltReason = s.haltReason ∧ t.params = s.params

/-- The step took the error OutOfBounds, or left ERROR as it was (42_engine.md R182, 60_exceptions.md R341). -/
def RaisesOrKeepsError (s t : State) : Prop :=
  t.error = s.error ∨ ∃ a, t = s.raiseError (.outOfBounds a)

/-- The outcome with a function applied to its next state. -/
def mapNext (f : State → State) : Out → Out
  | .next t => .next (f t)
  | .fault x => .fault x
  | .refused x => .refused x

/-- The state with the inert flags at other values (10_state.md R32). -/
def State.withInert (tf if_ df : Bool) (s : State) : State :=
  { s with flags := { s.flags with tf := tf, if_ := if_, df := df } }

/-- The state with the data segment registers at other values (20_memory.md R61). -/
def State.withDataSegs (es ss ds : Word) (s : State) : State :=
  { s with seg := { s.seg with es := es, ss := ss, ds := ds } }

/-! ### Instructions by family -/

/-- DispCount of an instruction's mode byte, 0 without one (30_encoding.md R71). -/
def dispCountOf (p : Mod00Rm110) (i : Instr) : Nat :=
  match shapeOf i.opcode, i.operandBytes with
  | .mode8 _, m :: _ => dispCount p m
  | .mode16 _, m :: _ => dispCount p m
  | _, _ => 0

/-- The six forms of an ALU kind (30_encoding.md R79). -/
structure AluForms where
  rmR8 : Rm8 → Reg8 → Instr
  rmR16 : Rm16 → Reg16 → Instr
  rRm8 : Reg8 → Rm8 → Instr
  rRm16 : Reg16 → Rm16 → Instr
  alImm : Byte → Instr
  axImm : Word → Instr

/-- The constructors of each kind (30_encoding.md R78). -/
def aluForms : AluKind → AluForms
  | .add => ⟨.addRm8R8, .addRm16R16, .addR8Rm8, .addR16Rm16, .addAlImm8, .addAxImm16⟩
  | .or => ⟨.orRm8R8, .orRm16R16, .orR8Rm8, .orR16Rm16, .orAlImm8, .orAxImm16⟩
  | .adc => ⟨.adcRm8R8, .adcRm16R16, .adcR8Rm8, .adcR16Rm16, .adcAlImm8, .adcAxImm16⟩
  | .sbb => ⟨.sbbRm8R8, .sbbRm16R16, .sbbR8Rm8, .sbbR16Rm16, .sbbAlImm8, .sbbAxImm16⟩
  | .and => ⟨.andRm8R8, .andRm16R16, .andR8Rm8, .andR16Rm16, .andAlImm8, .andAxImm16⟩
  | .sub => ⟨.subRm8R8, .subRm16R16, .subR8Rm8, .subR16Rm16, .subAlImm8, .subAxImm16⟩
  | .xor => ⟨.xorRm8R8, .xorRm16R16, .xorR8Rm8, .xorR16Rm16, .xorAlImm8, .xorAxImm16⟩
  | .cmp => ⟨.cmpRm8R8, .cmpRm16R16, .cmpR8Rm8, .cmpR16Rm16, .cmpAlImm8, .cmpAxImm16⟩

/-- The kind's number (30_encoding.md R78). -/
def kindNumber : AluKind → Nat
  | .add => 0
  | .or => 1
  | .adc => 2
  | .sbb => 3
  | .and => 4
  | .sub => 5
  | .xor => 6
  | .cmp => 7

/-- INC of a register (44_incdec_stack.md). -/
def incOf : Reg16 → Instr
  | .ax => .incAx
  | .cx => .incCx
  | .dx => .incDx
  | .bx => .incBx
  | .sp => .incSp
  | .bp => .incBp
  | .si => .incSi
  | .di => .incDi

/-- DEC of a register (44_incdec_stack.md). -/
def decOf : Reg16 → Instr
  | .ax => .decAx
  | .cx => .decCx
  | .dx => .decDx
  | .bx => .decBx
  | .sp => .decSp
  | .bp => .decBp
  | .si => .decSi
  | .di => .decDi

/-- PUSH of a register (44_incdec_stack.md). -/
def pushOf : Reg16 → Instr
  | .ax => .pushAx
  | .cx => .pushCx
  | .dx => .pushDx
  | .bx => .pushBx
  | .sp => .pushSp
  | .bp => .pushBp
  | .si => .pushSi
  | .di => .pushDi

/-- POP of a register (44_incdec_stack.md). -/
def popOf : Reg16 → Instr
  | .ax => .popAx
  | .cx => .popCx
  | .dx => .popDx
  | .bx => .popBx
  | .sp => .popSp
  | .bp => .popBp
  | .si => .popSi
  | .di => .popDi

/-! ### The ALU functions as the rules write them (41_alu_flags.md), at width w -/

/-- S_w = 2^(w-1). -/
def signMask (w : Nat) : BitVec w := BitVec.ofNat w (2 ^ (w - 1))

/-- The mask 0x10 of the AF test. -/
def auxMask (w : Nat) : BitVec w := BitVec.ofNat w 0x10

/-- The low 8 bits have an even number of set bits (R131). -/
def evenLowByte (w : Nat) (r : BitVec w) : Bool := (List.range 8).countP (fun i => r.getLsbD i) % 2 == 0

/-- CF, AF and OF as given, with ZF, SF and PF of Classify_w(r) (R130). -/
def ruleFlags (w : Nat) (cf : Bool) (af : Option Bool) (of_ : Bool) (r : BitVec w) : FlagWrite :=
  { cf := some cf, pf := some (evenLowByte w r), af := af, zf := some (decide (r.toNat = 0)),
    sf := some ((r &&& signMask w) != 0), of_ := some of_ }

/-- add_w (R132). -/
def ruleAdd (w : Nat) (a b : BitVec w) : BitVec w × FlagWrite :=
  let t := a.toNat + b.toNat
  let r := BitVec.ofNat w (t % 2 ^ w)
  (r, ruleFlags w (decide (t > 2 ^ w - 1)) (some (((a ^^^ b ^^^ r) &&& auxMask w) != 0))
    (((r ^^^ a) &&& (r ^^^ b) &&& signMask w) != 0) r)

/-- adc_w (R136). -/
def ruleAdc (w : Nat) (a b : BitVec w) (c : Bool) : BitVec w × FlagWrite :=
  let t := a.toNat + b.toNat + c.toNat
  let r := BitVec.ofNat w (t % 2 ^ w)
  (r, ruleFlags w (decide (t > 2 ^ w - 1)) (some (((a ^^^ b ^^^ r) &&& auxMask w) != 0))
    (((r ^^^ a) &&& (r ^^^ b) &&& signMask w) != 0) r)

/-- sub_w (R133); the difference modulo 2^w is taken over the integers. -/
def ruleSub (w : Nat) (a b : BitVec w) : BitVec w × FlagWrite :=
  let r := BitVec.ofInt w ((a.toNat : Int) - b.toNat)
  (r, ruleFlags w (decide (a.toNat < b.toNat)) (some (((a ^^^ b ^^^ r) &&& auxMask w) != 0))
    (((r ^^^ a) &&& (a ^^^ b) &&& signMask w) != 0) r)

/-- sbb_w (R137). -/
def ruleSbb (w : Nat) (a b : BitVec w) (c : Bool) : BitVec w × FlagWrite :=
  let r := BitVec.ofInt w ((a.toNat : Int) - b.toNat - c.toNat)
  (r, ruleFlags w (decide (a.toNat < b.toNat + c.toNat)) (some (((a ^^^ b ^^^ r) &&& auxMask w) != 0))
    (((r ^^^ a) &&& (a ^^^ b) &&& signMask w) != 0) r)

/-- The flags of a logical result r: CF and OF cleared, AF not written (R134). -/
def ruleLogic (w : Nat) (r : BitVec w) : BitVec w × FlagWrite := (r, ruleFlags w false none false r)

/-- incdec16: the function's result and flags without CF (R138). -/
def withoutCf (p : Word × FlagWrite) : Word × FlagWrite := (p.1, { p.2 with cf := none })

/-! ### The state an ALU instruction is to leave (43_alu_instructions.md R200 to R202) -/

/-- The result in its location (`writes` is false for CMP), the flags, IP past the instruction, at width 8. -/
def aluNext8 (writes : Bool) (s : State) (dst : Loc8) (p : Byte × FlagWrite) (len : Nat) : State :=
  ((if writes then dst.put s p.1 else s).setFlags (s.flags.update p.2)).advance len

/-- The same at width 16. -/
def aluNext16 (writes : Bool) (s : State) (dst : Loc16) (p : Word × FlagWrite) (len : Nat) : State :=
  ((if writes then dst.put s p.1 else s).setFlags (s.flags.update p.2)).advance len

/-- A two-operand function at every width, with the incoming CF. -/
abbrev AluFn := (w : Nat) → BitVec w → BitVec w → Bool → BitVec w × FlagWrite

/-- Each of the six forms of a kind answers a next state, the one R200 and R201 give for the function `fn`, in every
state in which the opcode may run and the memory operand, if there is one, is in bounds. -/
def AluCompletes (k : AluKind) (writes : Bool) (fn : AluFn) : Prop :=
  ∀ s : State,
    (∀ rm r, s.MayRun ((aluForms k).rmR8 rm r).opcode → (resolve8 s rm).inBounds s = true →
      exec ((aluForms k).rmR8 rm r) s =
        .next (aluNext8 writes s (resolve8 s rm) (fn 8 ((resolve8 s rm).value s) (s.r8 r) s.flags.cf)
          (rmLength8 rm))) ∧
    (∀ rm r, s.MayRun ((aluForms k).rmR16 rm r).opcode → (resolve16 s rm).inBounds s = true →
      exec ((aluForms k).rmR16 rm r) s =
        .next (aluNext16 writes s (resolve16 s rm) (fn 16 ((resolve16 s rm).value s) (s.r16 r) s.flags.cf)
          (rmLength16 rm))) ∧
    (∀ r rm, s.MayRun ((aluForms k).rRm8 r rm).opcode → (resolve8 s rm).inBounds s = true →
      exec ((aluForms k).rRm8 r rm) s =
        .next (aluNext8 writes s (.reg r) (fn 8 (s.r8 r) ((resolve8 s rm).value s) s.flags.cf) (rmLength8 rm))) ∧
    (∀ r rm, s.MayRun ((aluForms k).rRm16 r rm).opcode → (resolve16 s rm).inBounds s = true →
      exec ((aluForms k).rRm16 r rm) s =
        .next (aluNext16 writes s (.reg r) (fn 16 (s.r16 r) ((resolve16 s rm).value s) s.flags.cf)
          (rmLength16 rm))) ∧
    (∀ imm, s.MayRun ((aluForms k).alImm imm).opcode →
      exec ((aluForms k).alImm imm) s =
        .next (aluNext8 writes s (.reg .al) (fn 8 (s.r8 .al) imm s.flags.cf) 2)) ∧
    (∀ imm, s.MayRun ((aluForms k).axImm imm).opcode →
      exec ((aluForms k).axImm imm) s =
        .next (aluNext16 writes s (.reg .ax) (fn 16 (s.r16 .ax) imm s.flags.cf) 3))

end Sys2Proof.Machine
end

