-- ==== Sys2Proof/Certificates/Slice0/Obligations.lean ====
section
/-! DEFINITION. The statements for the provers. Each docstring names the rule of spec/ it formalises. -/

open Sys2Proof Sys2Proof.Machine

/-! ### Registers and machine state -/

/-- R23: `GPR8[i] <- v` changes one half of one register and nothing else. -/
def Obligations.ByteRegisterWriteChangesOnlyItsHalf : Prop :=
  ∀ (s : State) (r : Reg8) (v : Byte),
    (s.setR8 r v).r16 (Reg8.parent r) =
      (if Reg8.isHigh r then joinBytes v (loByte (s.r16 (Reg8.parent r)))
       else joinBytes (hiByte (s.r16 (Reg8.parent r))) v) ∧
    (∀ q, q ≠ r → (s.setR8 r v).r8 q = s.r8 q) ∧
    (∀ q, q ≠ Reg8.parent r → (s.setR8 r v).r16 q = s.r16 q) ∧
    { s.setR8 r v with gpr := s.gpr } = s

/-- R24: `GPR16[i] <- v` sets both halves; for i < 4 the halves put together give v back. -/
def Obligations.WordRegisterWriteSetsBothHalves : Prop :=
  ∀ (s : State) (r : Reg16) (v : Word),
    (s.setR16 r v).r16 r = v ∧
    (∀ lo hi : Reg8, Reg8.parent lo = r → Reg8.parent hi = r → Reg8.isHigh lo = false → Reg8.isHigh hi = true →
      (s.setR16 r v).r8 lo = loByte v ∧ (s.setR16 r v).r8 hi = hiByte v ∧
      joinBytes ((s.setR16 r v).r8 hi) ((s.setR16 r v).r8 lo) = v) ∧
    (∀ q, q ≠ r → (s.setR16 r v).r16 q = s.r16 q) ∧
    { s.setR16 r v with gpr := s.gpr } = s

/-- R25: no byte id reaches SP, BP, SI or DI, by a read or by a write. -/
def Obligations.PointerRegistersHaveNoByteAccess : Prop :=
  ∀ (s : State) (p : Reg16), p ∈ [Reg16.sp, .bp, .si, .di] →
    ∀ (r : Reg8) (v : Byte) (u : Word), (s.setR8 r v).r16 p = s.r16 p ∧ (s.setR16 p u).r8 r = s.r8 r

/-- R20, R21 and R22: which register each id of the two accessors gets and sets, and the storage of the byte
registers. The order of the ids is the spec's inference (R21, 92_eei_decisions.md D25; log entry 13). -/
def Obligations.RegisterIdsNameTheirRegisters : Prop :=
  ∀ s : State,
    (List.range 8).map (gpr16ById s) =
      [.ok s.gpr.ax, .ok s.gpr.cx, .ok s.gpr.dx, .ok s.gpr.bx, .ok s.gpr.sp, .ok s.gpr.bp, .ok s.gpr.si,
       .ok s.gpr.di] ∧
    (List.range 8).map (gpr8ById s) =
      [.ok (s.gpr.ax.extractLsb' 0 8), .ok (s.gpr.cx.extractLsb' 0 8), .ok (s.gpr.dx.extractLsb' 0 8),
       .ok (s.gpr.bx.extractLsb' 0 8), .ok (s.gpr.ax.extractLsb' 8 8), .ok (s.gpr.cx.extractLsb' 8 8),
       .ok (s.gpr.dx.extractLsb' 8 8), .ok (s.gpr.bx.extractLsb' 8 8)] ∧
    (∀ v : Word, (List.range 8).map (fun id => setGpr16ById s id v) =
      [.ok { s with gpr := { s.gpr with ax := v } }, .ok { s with gpr := { s.gpr with cx := v } },
       .ok { s with gpr := { s.gpr with dx := v } }, .ok { s with gpr := { s.gpr with bx := v } },
       .ok { s with gpr := { s.gpr with sp := v } }, .ok { s with gpr := { s.gpr with bp := v } },
       .ok { s with gpr := { s.gpr with si := v } }, .ok { s with gpr := { s.gpr with di := v } }]) ∧
    ∀ v : Byte, (List.range 8).map (fun id => setGpr8ById s id v) =
      [.ok { s with gpr := { s.gpr with ax := s.gpr.ax.extractLsb' 8 8 ++ v } },
       .ok { s with gpr := { s.gpr with cx := s.gpr.cx.extractLsb' 8 8 ++ v } },
       .ok { s with gpr := { s.gpr with dx := s.gpr.dx.extractLsb' 8 8 ++ v } },
       .ok { s with gpr := { s.gpr with bx := s.gpr.bx.extractLsb' 8 8 ++ v } },
       .ok { s with gpr := { s.gpr with ax := v ++ s.gpr.ax.extractLsb' 0 8 } },
       .ok { s with gpr := { s.gpr with cx := v ++ s.gpr.cx.extractLsb' 0 8 } },
       .ok { s with gpr := { s.gpr with dx := v ++ s.gpr.dx.extractLsb' 0 8 } },
       .ok { s with gpr := { s.gpr with bx := v ++ s.gpr.bx.extractLsb' 0 8 } }]

/-- R20, R26, R342: the accessors of the three register classes raise InvalidOperandEncoding(id) exactly for an id out
of range, the segment ids 0 to 3 get and set ES, CS, SS and DS, and no step raises that error, which the spec derives
(R342: "Raised by: no SETTLED or PROVISIONAL opcode"). The segment numbering and its end at 3 are the spec's decision
from general knowledge (R26, 92_eei_decisions.md D14; log entry 13). That an accessor gives its error to the caller is
the model's choice (log entry 16). -/
def Obligations.InvalidIdsRaiseAndNoStepDoes : Prop :=
  (∀ (s : State) (id : Nat) (v : Word) (b : Byte), 8 ≤ id →
    gpr16ById s id = .error (.invalidOperandEncoding id) ∧ gpr8ById s id = .error (.invalidOperandEncoding id) ∧
    setGpr16ById s id v = .error (.invalidOperandEncoding id) ∧
    setGpr8ById s id b = .error (.invalidOperandEncoding id)) ∧
  (∀ (s : State) (id : Nat) (v : Word), 4 ≤ id →
    segById s id = .error (.invalidOperandEncoding id) ∧ setSegById s id v = .error (.invalidOperandEncoding id)) ∧
  (∀ (s : State) (id : Nat) (u : Word) (b : Byte), id < 8 →
    (∃ v, gpr16ById s id = .ok v) ∧ (∃ v, gpr8ById s id = .ok v) ∧
    (∃ t, setGpr16ById s id u = .ok t) ∧ ∃ t, setGpr8ById s id b = .ok t) ∧
  (∀ s : State, (List.range 4).map (segById s) = [.ok s.seg.es, .ok s.seg.cs, .ok s.seg.ss, .ok s.seg.ds]) ∧
  (∀ (s : State) (v : Word), (List.range 4).map (fun id => setSegById s id v) =
    [.ok { s with seg := { s.seg with es := v } }, .ok { s with seg := { s.seg with cs := v } },
     .ok { s with seg := { s.seg with ss := v } }, .ok { s with seg := { s.seg with ds := v } }]) ∧
  ∀ (s t : State) (id : Nat), step s = .next t → t.error ≠ some (.invalidOperandEncoding id)

/-- R31: PHYS_IP is CS * 16 + IP without truncation, a function of CS and IP alone. -/
def Obligations.PhysicalIpIsDerivedFromCsAndIp : Prop :=
  ∀ s : State,
    s.physIp = s.seg.cs.toNat * 16 + s.ip.toNat ∧ s.physIp ≤ 0x10FFEF ∧
    ∀ t : State, t.seg.cs = s.seg.cs → t.ip = s.ip → t.physIp = s.physIp

/-- R382: at construction, whatever the launch, HALTED = 0, HALT_REASON and ERROR are none, so a step can happen;
and every other value is the launch's. The spec derives it from §4.5 (R382, 92_eei_decisions.md D10). -/
def Obligations.ConstructionLeavesTheMachineRunning : Prop :=
  ∀ l : Launch,
    (State.construct l).halted = false ∧ (State.construct l).haltReason = none ∧ (State.construct l).error = none ∧
    (∀ f, step (State.construct l) ≠ .fault f) ∧
    (State.construct l).gpr = l.gpr ∧ (State.construct l).seg = l.seg ∧ (State.construct l).ip = l.ip ∧
    (State.construct l).flags = l.flags ∧ (State.construct l).mem = l.mem ∧ (State.construct l).params = l.params

/-- The reset state meets the invariant (its launch values are the model's, log entries 2 to 8). -/
def Obligations.ResetMeetsTheInvariant : Prop := State.reset.Inv

/-! ### Memory -/

/-- R51 and R52: a byte read and a word read, their bounds and their byte order. That the second byte of a word does
not wrap is the spec's decision (R52, 92_eei_decisions.md D17). -/
def Obligations.MemoryReadsAreBounded : Prop :=
  ∀ (s : State) (a : Nat),
    memRead8 s a = (if a ≥ s.params.memSize then .error (.outOfBounds a) else .ok (s.byteAt a)) ∧
    memRead16 s a =
      (if a ≥ s.params.memSize ∨ a + 1 ≥ s.params.memSize then .error (.outOfBounds a)
       else .ok (s.byteAt (a + 1) ++ s.byteAt a))

/-- R53 and R54: a byte write and a word write, their bounds, the bytes they change, and that they change nothing
else. The premise is the canonical form of memory, which every step keeps (StepKeepsTheInvariant). -/
def Obligations.MemoryWritesChangeTheirBytes : Prop :=
  ∀ (s : State), Memory.wf s.mem = true → ∀ (a : Nat),
    (∀ v : Byte,
      (a ≥ s.params.memSize → memWrite8 s a v = .error (.outOfBounds a)) ∧
      (a < s.params.memSize → ∃ t, memWrite8 s a v = .ok t ∧ { t with mem := s.mem } = s ∧
        t.byteAt a = v ∧ ∀ x, x ≠ a → t.byteAt x = s.byteAt x)) ∧
    (∀ v : Word,
      (a ≥ s.params.memSize ∨ a + 1 ≥ s.params.memSize → memWrite16 s a v = .error (.outOfBounds a)) ∧
      (a + 1 < s.params.memSize → ∃ t, memWrite16 s a v = .ok t ∧ { t with mem := s.mem } = s ∧
        t.byteAt a = v.extractLsb' 0 8 ∧ t.byteAt (a + 1) = v.extractLsb' 8 8 ∧
        ∀ x, x ≠ a → x ≠ a + 1 → t.byteAt x = s.byteAt x))

/-- R58, its data part: a byte read inside a word just written, and a word read over two bytes just written (derived
there from R51 to R54). The premise is the canonical form of memory. -/
def Obligations.MixedWidthAccessesAreLittleEndian : Prop :=
  ∀ (s : State), Memory.wf s.mem = true → ∀ (a : Nat),
    (∀ (v : Word) (t : State), memWrite16 s a v = .ok t →
      memRead8 t a = .ok (v.extractLsb' 0 8) ∧ memRead8 t (a + 1) = .ok (v.extractLsb' 8 8)) ∧
    (∀ (b0 b1 : Byte) (t u : State), memWrite8 s a b0 = .ok t → memWrite8 t (a + 1) b1 = .ok u →
      memRead16 u a = .ok (b1 ++ b0))

/-- R69: what a byte store or a word store has just put at the address of an instruction byte is what the fetch gives
(the spec's decision, 92_eei_decisions.md D18): the byte, the word's low byte where the store starts there, its high
byte where the store starts one address below. -/
def Obligations.StoredBytesAreFetched : Prop :=
  ∀ (s t : State) (n : Nat), Memory.wf s.mem = true → s.ip.toNat + n ≤ 0xFFFF →
    (∀ v : Byte, memWrite8 s (s.physIp + n) v = .ok t → instrByte t n = .ok v) ∧
    (∀ v : Word, memWrite16 s (s.physIp + n) v = .ok t → instrByte t n = .ok (v.extractLsb' 0 8)) ∧
    (∀ (v : Word) (a : Nat), a + 1 = s.physIp + n → memWrite16 s a v = .ok t →
      instrByte t n = .ok (v.extractLsb' 8 8))

/-! ### The ALU -/

/-- R130 and R131: ZF, SF and PF of a result, at both widths; PF's test counts the set bits of the low byte. -/
def Obligations.ResultsAreClassified : Prop :=
  (∀ b : Byte, parity b = decide (((List.range 8).countP fun i => b.getLsbD i) % 2 = 0)) ∧
  (∀ r : Word, zeroFlag r = decide (r.toNat = 0) ∧ signFlag r = ((r &&& 0x8000) != 0) ∧
    parityFlag r = parity (r.extractLsb' 0 8)) ∧
  (∀ r : Byte, zeroFlag r = decide (r.toNat = 0) ∧ signFlag r = ((r &&& 0x80) != 0) ∧
    parityFlag r = parity r)

/-- R132: the result and the six flags of add16. -/
def Obligations.Add16FollowsItsRule : Prop := ∀ a b : Word, addW a b = ruleAdd 16 a b

/-- R133: the result and the six flags of sub16. -/
def Obligations.Sub16FollowsItsRule : Prop := ∀ a b : Word, subW a b = ruleSub 16 a b

/-- R134: the three logical functions; CF and OF are cleared and AF is not written (AF is the spec's decision,
92_eei_decisions.md D16). -/
def Obligations.Logic16FollowsItsRule : Prop :=
  ∀ a b : Word,
    andW a b = ruleLogic 16 (a &&& b) ∧ orW a b = ruleLogic 16 (a ||| b) ∧ xorW a b = ruleLogic 16 (a ^^^ b)

/-- R135: the width-8 functions are the same rules at w = 8 (the spec's decision, 92_eei_decisions.md D15). -/
def Obligations.Width8FollowsTheSameRules : Prop :=
  ∀ a b : Byte,
    addW a b = ruleAdd 8 a b ∧ subW a b = ruleSub 8 a b ∧
    andW a b = ruleLogic 8 (a &&& b) ∧ orW a b = ruleLogic 8 (a ||| b) ∧ xorW a b = ruleLogic 8 (a ^^^ b)

/-- R136: add with carry-in at both widths; with c = 0 it is add (from general knowledge, 92_eei_decisions.md D24). -/
def Obligations.AdcFollowsItsRule : Prop :=
  (∀ (a b : Word) (c : Bool), adcW a b c = ruleAdc 16 a b c) ∧
  (∀ (a b : Byte) (c : Bool), adcW a b c = ruleAdc 8 a b c) ∧
  (∀ a b : Word, adcW a b false = addW a b) ∧ (∀ a b : Byte, adcW a b false = addW a b)

/-- R137: subtract with borrow-in at both widths; with c = 0 it is sub (from general knowledge, 92_eei_decisions.md
D24). -/
def Obligations.SbbFollowsItsRule : Prop :=
  (∀ (a b : Word) (c : Bool), sbbW a b c = ruleSbb 16 a b c) ∧
  (∀ (a b : Byte) (c : Bool), sbbW a b c = ruleSbb 8 a b c) ∧
  (∀ a b : Word, sbbW a b false = subW a b) ∧ (∀ a b : Byte, sbbW a b false = subW a b)

/-- R138: INC is add16(a, 1), DEC is sub16(a, 1), neither returns CF (from general knowledge, 92_eei_decisions.md
D24). -/
def Obligations.IncDec16FollowsItsRule : Prop :=
  ∀ a : Word, inc16 a = withoutCf (ruleAdd 16 a 1) ∧ dec16 a = withoutCf (ruleSub 16 a 1)

/-- R139: AF is the carry or borrow into bit 4, at both widths and with a carry-in (derived there from R132). -/
def Obligations.AuxiliaryCarryIsExact : Prop :=
  (∀ (a b : Word) (c : Bool),
    (adcW a b c).2.af = some (decide (16 ≤ a.toNat % 16 + b.toNat % 16 + c.toNat)) ∧
    (sbbW a b c).2.af = some (decide (a.toNat % 16 < b.toNat % 16 + c.toNat))) ∧
  (∀ (a b : Byte) (c : Bool),
    (adcW a b c).2.af = some (decide (16 ≤ a.toNat % 16 + b.toNat % 16 + c.toNat)) ∧
    (sbbW a b c).2.af = some (decide (a.toNat % 16 < b.toNat % 16 + c.toNat)))

/-- R141, its flag part: OF says that the two's-complement result is out of range. -/
def Obligations.OverflowIsTwosComplementOverflow : Prop :=
  (∀ (a b : Word) (c : Bool),
    (adcW a b c).2.of_ = some (decide ((adcW a b c).1.toInt ≠ a.toInt + b.toInt + c.toNat)) ∧
    (sbbW a b c).2.of_ = some (decide ((sbbW a b c).1.toInt ≠ a.toInt - b.toInt - c.toNat))) ∧
  (∀ (a b : Byte) (c : Bool),
    (adcW a b c).2.of_ = some (decide ((adcW a b c).1.toInt ≠ a.toInt + b.toInt + c.toNat)) ∧
    (sbbW a b c).2.of_ = some (decide ((sbbW a b c).1.toInt ≠ a.toInt - b.toInt - c.toNat)))

/-! ### The operand resolver -/

/-- R107: the EA is the sum of the base registers and the zero-extended displacement, modulo 2^16. The wrap is the
spec's decision (92_eei_decisions.md D7), the zero extension R104. -/
def Obligations.EffectiveAddressWrapsAt16Bits : Prop :=
  ∀ s : State,
    (∀ b, (baseSum s b).toNat =
      (match b with
        | .bxSi => s.gpr.bx.toNat + s.gpr.si.toNat
        | .bxDi => s.gpr.bx.toNat + s.gpr.di.toNat
        | .bpSi => s.gpr.bp.toNat + s.gpr.si.toNat
        | .bpDi => s.gpr.bp.toNat + s.gpr.di.toNat
        | .si => s.gpr.si.toNat
        | .di => s.gpr.di.toNat
        | .bp => s.gpr.bp.toNat
        | .bx => s.gpr.bx.toNat) % 2 ^ 16) ∧
    (∀ b, effAddr s (.plain b) = baseSum s b) ∧
    (∀ b d, (effAddr s (.disp8 b d)).toNat = ((baseSum s b).toNat + d.toNat) % 2 ^ 16) ∧
    (∀ b d, (effAddr s (.disp16 b d)).toNat = ((baseSum s b).toNat + d.toNat) % 2 ^ 16) ∧
    (∀ a, effAddr s (.direct a) = a)

/-- R61, R62, R102, R106 and R108: data and stack addresses under the two settings of DATA_ADDRESSING (the spec's
decision, 92_eei_decisions.md D5), and the segment of each memory operand: SS where BP is in the base sum, DS for the
others and for a direct address (from general knowledge, R102, R106; log entry 13). -/
def Obligations.DataAndStackAddresses : Prop :=
  ∀ s : State,
    (s.params.dataAddressing = .flat →
      (∀ ea g, dataPA s ea g = ea.toNat) ∧ (∀ sp, stackPA s sp = sp.toNat) ∧
      ∀ m, operandPA s m = (effAddr s m).toNat) ∧
    (s.params.dataAddressing = .segmented →
      (∀ ea, dataPA s ea .es = s.seg.es.toNat * 16 + ea.toNat ∧ dataPA s ea .cs = s.seg.cs.toNat * 16 + ea.toNat ∧
        dataPA s ea .ss = s.seg.ss.toNat * 16 + ea.toNat ∧ dataPA s ea .ds = s.seg.ds.toNat * 16 + ea.toNat) ∧
      (∀ sp, stackPA s sp = s.seg.ss.toNat * 16 + sp.toNat) ∧
      (∀ b ∈ [Base.bpSi, .bpDi, .bp], ∀ m : MemOperand,
        m = .plain b ∨ (∃ d, m = .disp8 b d) ∨ (∃ d, m = .disp16 b d) →
        operandPA s m = s.seg.ss.toNat * 16 + (effAddr s m).toNat) ∧
      (∀ b ∈ [Base.bxSi, .bxDi, .si, .di, .bx], ∀ m : MemOperand,
        m = .plain b ∨ (∃ d, m = .disp8 b d) ∨ (∃ d, m = .disp16 b d) →
        operandPA s m = s.seg.ds.toNat * 16 + (effAddr s m).toNat) ∧
      ∀ a, operandPA s (.direct a) = s.seg.ds.toNat * 16 + a.toNat)

/-- R113: what is written through a resolved r/m operand is read back through it, at both widths (derived there from
R110 and R111). The premises are the canonical form of memory and that the location is in bounds. -/
def Obligations.LocationRoundTrip : Prop :=
  ∀ s : State, Memory.wf s.mem = true →
    (∀ (rm : Rm8) (v : Byte), (resolve8 s rm).inBounds s = true →
      ∃ t, writeLoc8 s (resolve8 s rm) v = .ok t ∧ readLoc8 t (resolve8 s rm) = .ok v) ∧
    (∀ (rm : Rm16) (v : Word), (resolve16 s rm).inBounds s = true →
      ∃ t, writeLoc16 s (resolve16 s rm) v = .ok t ∧ readLoc16 t (resolve16 s rm) = .ok v)

/-! ### Encoding -/

/-- Decoding the encoding of a well-formed instruction gives it back, whatever bytes follow and under either value of
MOD00_RM110. -/
def Obligations.DecodeOfEncodeIsTheInstruction : Prop :=
  ∀ (p : Mod00Rm110) (i : Instr) (rest : List Byte), i.wf p = true → decode p (encode i ++ rest) = .ok i

/-- The other direction: bytes that decode begin with the encoding of what they decode to, which is well formed. -/
def Obligations.DecodedBytesBeginWithTheEncoding : Prop :=
  ∀ (p : Mod00Rm110) (bytes : List Byte) (i : Instr), decode p bytes = .ok i →
    i.wf p = true ∧ ∃ rest, bytes = encode i ++ rest

/-- R88: a register-to-register form 1 is the opcode and the byte 11 ++ reg(src) ++ rm(dst), for every kind; the
source's words decode to what they stand for. -/
def Obligations.RegisterFormsEncodeAsTheSpecSays : Prop :=
  (∀ (k : AluKind) (dst src : Reg16),
    encode ((aluForms k).rmR16 (.reg dst) src) =
      [((aluForms k).rmR16 (.reg dst) src).opcode, (0b11#2 ++ src.id ++ dst.id : BitVec 8)]) ∧
  decode .bpIndirect [0x31, 0xD8] = .ok (.xorRm16R16 (.reg .ax) .bx) ∧
  decode .bpIndirect [0x31, 0xDB] = .ok (.xorRm16R16 (.reg .bx) .bx) ∧
  decode .bpIndirect [0x21, 0xD8] = .ok (.andRm16R16 (.reg .ax) .bx)

/-- Words written out from the spec's encodings decode to their instructions: one for each row of the base table
(40_operand_resolver.md R102) and each 16-bit register id, each byte register id, each mode and each displacement size
(R103 to R106), each of the six ALU forms and eight kinds (30_encoding.md R78, R79), INC, DEC, PUSH and POP
(44_incdec_stack.md), HLT, and an UNIMPLEMENTED and an UNSETTLED byte (30_encoding.md R80). Four rows of the base
table, the row positions and every opcode but 0x21, 0x31, 0xF4 and 0x27 are the spec's 8086 reading, from general
knowledge (93_implementation_defined.md G1, G4, G6; log entry 13). -/
def Obligations.SpecWordsDecode : Prop :=
  decode .bpIndirect [0x31, 0x00] = .ok (.xorRm16R16 (.mem (.plain .bxSi)) .ax) ∧
  decode .bpIndirect [0x31, 0x09] = .ok (.xorRm16R16 (.mem (.plain .bxDi)) .cx) ∧
  decode .bpIndirect [0x31, 0x12] = .ok (.xorRm16R16 (.mem (.plain .bpSi)) .dx) ∧
  decode .bpIndirect [0x31, 0x1B] = .ok (.xorRm16R16 (.mem (.plain .bpDi)) .bx) ∧
  decode .bpIndirect [0x31, 0x24] = .ok (.xorRm16R16 (.mem (.plain .si)) .sp) ∧
  decode .bpIndirect [0x31, 0x2D] = .ok (.xorRm16R16 (.mem (.plain .di)) .bp) ∧
  decode .bpIndirect [0x31, 0x36] = .ok (.xorRm16R16 (.mem (.plain .bp)) .si) ∧
  decode .bpIndirect [0x31, 0x3F] = .ok (.xorRm16R16 (.mem (.plain .bx)) .di) ∧
  decode .bpIndirect [0x08, 0xC4] = .ok (.orRm8R8 (.reg .ah) .al) ∧
  decode .bpIndirect [0x10, 0xCD] = .ok (.adcRm8R8 (.reg .ch) .cl) ∧
  decode .bpIndirect [0x18, 0xD6] = .ok (.sbbRm8R8 (.reg .dh) .dl) ∧
  decode .bpIndirect [0x28, 0xDF] = .ok (.subRm8R8 (.reg .bh) .bl) ∧
  decode .bpIndirect [0x21, 0xFC] = .ok (.andRm16R16 (.reg .sp) .di) ∧
  decode .bpIndirect [0x02, 0x3C] = .ok (.addR8Rm8 .bh (.mem (.plain .si))) ∧
  decode .bpIndirect [0x03, 0x4E, 0x7F] = .ok (.addR16Rm16 .cx (.mem (.disp8 .bp 0x7F))) ∧
  decode .bpIndirect [0x31, 0x4F, 0x80] = .ok (.xorRm16R16 (.mem (.disp8 .bx 0x80)) .cx) ∧
  decode .bpIndirect [0x21, 0x93, 0x00, 0x10] = .ok (.andRm16R16 (.mem (.disp16 .bpDi 0x1000)) .dx) ∧
  decode .directDisp16 [0x31, 0x06, 0x34, 0x12] = .ok (.xorRm16R16 (.mem (.direct 0x1234)) .ax) ∧
  decode .bpIndirect [0x24, 0x0F] = .ok (.andAlImm8 0x0F) ∧
  decode .bpIndirect [0x3D, 0x03, 0x00] = .ok (.cmpAxImm16 0x0003) ∧
  decode .bpIndirect [0x46] = .ok .incSi ∧
  decode .bpIndirect [0x49] = .ok .decCx ∧
  decode .bpIndirect [0x54] = .ok .pushSp ∧
  decode .bpIndirect [0x5A] = .ok .popDx ∧
  decode .bpIndirect [0xF4] = .ok .hlt ∧
  decode .bpIndirect [0x27] = .ok .daa ∧
  decode .bpIndirect [0x80] = .ok .unsettled80

/-- R78, R300, R301: ALU opcodes are kind*8 + form, and INC, DEC, PUSH and POP stand at 0x40, 0x48, 0x50 and 0x58 plus
the register's id (the 8086's layout, from general knowledge; log entry 13). -/
def Obligations.OpcodesFollowTheLayout : Prop :=
  (∀ (k : AluKind) (rm8 : Rm8) (rm16 : Rm16) (r8 : Reg8) (r16 : Reg16) (imm8 : Byte) (imm16 : Word),
    ((aluForms k).rmR8 rm8 r8).opcode.toNat = kindNumber k * 8 ∧
    ((aluForms k).rmR16 rm16 r16).opcode.toNat = kindNumber k * 8 + 1 ∧
    ((aluForms k).rRm8 r8 rm8).opcode.toNat = kindNumber k * 8 + 2 ∧
    ((aluForms k).rRm16 r16 rm16).opcode.toNat = kindNumber k * 8 + 3 ∧
    ((aluForms k).alImm imm8).opcode.toNat = kindNumber k * 8 + 4 ∧
    ((aluForms k).axImm imm16).opcode.toNat = kindNumber k * 8 + 5) ∧
  ∀ r : Reg16,
    (incOf r).opcode.toNat = 0x40 + r.id.toNat ∧ (decOf r).opcode.toNat = 0x48 + r.id.toNat ∧
    (pushOf r).opcode.toNat = 0x50 + r.id.toNat ∧ (popOf r).opcode.toNat = 0x58 + r.id.toNat

/-- R80: the members of the four classes, of which there are 3, 78, 32 and 143, and the opcode table agrees with them
(the classes are the spec's decision, 92_eei_decisions.md D1). -/
def Obligations.OpcodeClassesMatchTheTable : Prop :=
  ((List.range 256).countP fun n => decide (classOf (BitVec.ofNat 8 n) = .settled)) = 3 ∧
  ((List.range 256).countP fun n => decide (classOf (BitVec.ofNat 8 n) = .provisional)) = 78 ∧
  ((List.range 256).countP fun n => decide (classOf (BitVec.ofNat 8 n) = .unsettled)) = 32 ∧
  ((List.range 256).countP fun n => decide (classOf (BitVec.ofNat 8 n) = .unimplemented)) = 143 ∧
  (∀ op : Byte,
    (classOf op = .settled ↔ op.toNat = 0x21 ∨ op.toNat = 0x31 ∨ op.toNat = 0xF4) ∧
    (classOf op = .provisional ↔
      (0x00 ≤ op.toNat ∧ op.toNat ≤ 0x05) ∨ (0x08 ≤ op.toNat ∧ op.toNat ≤ 0x0D) ∨
      (0x10 ≤ op.toNat ∧ op.toNat ≤ 0x15) ∨ (0x18 ≤ op.toNat ∧ op.toNat ≤ 0x1D) ∨ op.toNat = 0x20 ∨
      (0x22 ≤ op.toNat ∧ op.toNat ≤ 0x25) ∨ (0x28 ≤ op.toNat ∧ op.toNat ≤ 0x2D) ∨ op.toNat = 0x30 ∨
      (0x32 ≤ op.toNat ∧ op.toNat ≤ 0x35) ∨ (0x38 ≤ op.toNat ∧ op.toNat ≤ 0x3D) ∨
      (0x40 ≤ op.toNat ∧ op.toNat ≤ 0x5F)) ∧
    (classOf op = .unsettled ↔
      op.toNat = 0x06 ∨ op.toNat = 0x07 ∨ op.toNat = 0x0E ∨ op.toNat = 0x0F ∨ op.toNat = 0x16 ∨
      op.toNat = 0x17 ∨ op.toNat = 0x1E ∨ op.toNat = 0x1F ∨ op.toNat = 0x2F ∨ op.toNat = 0x37 ∨
      op.toNat = 0x3F ∨ (0x80 ≤ op.toNat ∧ op.toNat ≤ 0x85) ∨ op.toNat = 0x8F ∨ op.toNat = 0x9C ∨
      op.toNat = 0x9D ∨ op.toNat = 0xA8 ∨ op.toNat = 0xA9 ∨ (0xD0 ≤ op.toNat ∧ op.toNat ≤ 0xD5) ∨
      op.toNat = 0xF6 ∨ op.toNat = 0xF7 ∨ op.toNat = 0xFE ∨ op.toNat = 0xFF) ∧
    (classOf op = .unimplemented ↔
      op.toNat = 0x26 ∨ op.toNat = 0x27 ∨ op.toNat = 0x2E ∨ op.toNat = 0x36 ∨ op.toNat = 0x3E ∨
      (0x60 ≤ op.toNat ∧ op.toNat ≤ 0x7F) ∨ (0x86 ≤ op.toNat ∧ op.toNat ≤ 0x8E) ∨
      (0x90 ≤ op.toNat ∧ op.toNat ≤ 0x9B) ∨ op.toNat = 0x9E ∨ op.toNat = 0x9F ∨
      (0xA0 ≤ op.toNat ∧ op.toNat ≤ 0xA7) ∨ (0xAA ≤ op.toNat ∧ op.toNat ≤ 0xCF) ∨
      (0xD6 ≤ op.toNat ∧ op.toNat ≤ 0xEF) ∨ (0xF0 ≤ op.toNat ∧ op.toNat ≤ 0xF3) ∨ op.toNat = 0xF5 ∨
      (0xF8 ≤ op.toNat ∧ op.toNat ≤ 0xFD))) ∧
  (∀ op : Byte, (classOf op = .unimplemented ↔ ∃ i, shapeOf op = .absent i) ∧
    (classOf op = .unsettled ↔ ∃ i, shapeOf op = .unsettled i))

/-- R168, R82, R344: no step halts with UnsupportedOperandCount, since no entry of the table declares more than two
operand bytes (92_eei_decisions.md D26). The spec gives an UNIMPLEMENTED or UNSETTLED entry no count; the 0 of those is
the model's filler (DESIGN CHOICE, log entry 25). -/
def Obligations.OperandCountIsAlwaysSupported : Prop :=
  (∀ op : Byte, (shapeOf op).operandCount ≤ 2) ∧
  ∀ (s t : State) (op : Byte), step s = .next t → s.haltReason = none →
    t.haltReason ≠ some (.unsupportedOperandCount op)

/-! ### The engine -/

/-- R161: a step happens only in the Running state, and `run` takes none in the two others. What the model's total
`step` answers there, and that it looks at ERROR before HALTED, is the model's choice (DESIGN CHOICE, log entry
10). -/
def Obligations.StepsHappenOnlyWhenRunning : Prop :=
  ∀ s : State,
    (s.Running → ∀ f, step s ≠ .fault f) ∧
    (∀ e, s.error = some e → step s = .fault (.errored e)) ∧
    (s.error = none → s.halted = true → step s = .fault (.halted s.haltReason)) ∧
    (¬ s.Running → ∀ n, (run n s).2 = s)

/-- R162: when the bytes at CS:IP are the encoding of a well-formed instruction whose opcode may run, and they exist
and do not cross offset 0xFFFF, the step is exec of that instruction, which moves IP itself (R167). -/
def Obligations.StepRunsTheDecodedInstruction : Prop :=
  ∀ (s : State) (i : Instr), s.Running → i.wf s.params.mod00Rm110 = true → s.MayRun i.opcode →
    s.CodeFits (encode i).length → s.Holds s.physIp (encode i) → step s = exec i s

/-- R163: the byte fetch. Its refusal past offset 0xFFFF is the spec's decision (92_eei_decisions.md D4). -/
def Obligations.InstructionBytesAreFetchedFromTheCodeSegment : Prop :=
  ∀ (s : State) (n : Nat),
    (s.ip.toNat + n > 0xFFFF → instrByte s n = .error (.refuse (.instructionCrossesSegmentEnd s.ip n))) ∧
    (s.ip.toNat + n ≤ 0xFFFF → s.seg.cs.toNat * 16 + s.ip.toNat + n < s.params.memSize →
      instrByte s n = .ok (s.byteAt (s.seg.cs.toNat * 16 + s.ip.toNat + n))) ∧
    (s.ip.toNat + n ≤ 0xFFFF → s.seg.cs.toNat * 16 + s.ip.toNat + n ≥ s.params.memSize →
      instrByte s n = .error (.raise (.outOfBounds (s.seg.cs.toNat * 16 + s.ip.toNat + n))))

/-- R163 at the level of a step: an instruction with bytes on both sides of offset 0xFFFF is refused at its first
byte past it; one that ends exactly there is not (StepRunsTheDecodedInstruction). The spec's decision
(92_eei_decisions.md D4). -/
def Obligations.CrossingInstructionsAreRefused : Prop :=
  ∀ (s : State) (i : Instr) (n : Nat), s.Running → i.wf s.params.mod00Rm110 = true → s.MayRun i.opcode →
    s.ip.toNat + n = 0x10000 → n < (encode i).length → 0 < n → s.physIp + n ≤ s.params.memSize →
    s.Holds s.physIp ((encode i).take n) →
    step s = .refused (.instructionCrossesSegmentEnd s.ip n)

/-- R173: an UNSETTLED opcode is refused, in a step and in exec, in every state (the spec's decision,
92_eei_decisions.md D1). -/
def Obligations.UnsettledOpcodesAreRefused : Prop :=
  (∀ (i : Instr) (s : State), classOf i.opcode = .unsettled → exec i s = .refused (.unsettledOpcode i.opcode)) ∧
  (∀ s : State, s.Running → s.physIp < s.params.memSize → classOf (s.byteAt s.physIp) = .unsettled →
    step s = .refused (.unsettledOpcode (s.byteAt s.physIp)))

/-- R174: under REFUSE a PROVISIONAL opcode is refused, in a step before any operand byte is fetched, and in exec;
under EXECUTE no step is refused for its class. The policy is the spec's decision (92_eei_decisions.md D2). -/
def Obligations.ProvisionalPolicyDecides : Prop :=
  (∀ (i : Instr) (s : State), classOf i.opcode = .provisional → s.params.provisionalPolicy = .refuse →
    exec i s = .refused (.provisionalOpcode i.opcode)) ∧
  (∀ s : State, s.Running → s.physIp < s.params.memSize → classOf (s.byteAt s.physIp) = .provisional →
    s.params.provisionalPolicy = .refuse → step s = .refused (.provisionalOpcode (s.byteAt s.physIp))) ∧
  (∀ (s : State) (op : Byte), s.params.provisionalPolicy = .execute → step s ≠ .refused (.provisionalOpcode op))

/-- R169 and R343: an UNIMPLEMENTED opcode halts the machine with its reason and changes nothing else, IP included;
no operand byte is fetched, so only its own fetch can fail. That such a failure leaves all but ERROR as it was is the
spec's decision (92_eei_decisions.md D11; DEDUCED, log entry 11). -/
def Obligations.UnimplementedOpcodesHalt : Prop :=
  (∀ (i : Instr) (s : State), classOf i.opcode = .unimplemented →
    exec i s = .next { s with halted := true, haltReason := some (.unimplementedOpcode i.opcode) }) ∧
  (∀ s : State, s.Running → s.physIp < s.params.memSize → classOf (s.byteAt s.physIp) = .unimplemented →
    step s =
      .next { s with halted := true, haltReason := some (.unimplementedOpcode (s.byteAt s.physIp)) }) ∧
  (∀ s : State, s.Running → s.physIp ≥ s.params.memSize →
    step s = .next { s with error := some (.outOfBounds s.physIp) })

/-- R171: HLT is the byte 0xF4; it halts the machine, IP moves past it modulo 2^16, and nothing else changes. That a
failed opcode fetch leaves all but ERROR as it was is the spec's decision (92_eei_decisions.md D11; DEDUCED, log entry
11). -/
def Obligations.HltHaltsAndAdvances : Prop :=
  encode .hlt = [0xF4] ∧
  (∀ s : State, exec .hlt s =
    .next { s with halted := true, haltReason := some .hlt, ip := BitVec.ofNat 16 (s.ip.toNat + 1) }) ∧
  (∀ s : State, s.Running → s.byteAt s.physIp = 0xF4 → s.physIp < s.params.memSize → step s = exec .hlt s) ∧
  (∀ s : State, s.Running → s.physIp ≥ s.params.memSize →
    step s = .next { s with error := some (.outOfBounds s.physIp) })

/-- R182: a step that ends in an error commits nothing but ERROR: the spec derives it and leaves the post-error state
open in the source (92_eei_decisions.md D11; log entry 11). -/
def Obligations.ErrorsCommitNothing : Prop :=
  ∀ (s t : State) (e : Error), step s = .next t → t.error = some e → t = { s with error := some e }

/-- Every step keeps the invariant, from every state that meets it. -/
def Obligations.StepKeepsTheInvariant : Prop :=
  ∀ s t : State, s.Inv → step s = .next t → t.Inv

/-- R27, R50: no step changes a segment register or a parameter (MEM_SIZE never changes). -/
def Obligations.SegmentsAndParametersNeverChange : Prop :=
  ∀ s t : State, step s = .next t → t.seg = s.seg ∧ t.params = s.params

/-- R32: no rule writes or reads TF, IF or DF: a step leaves them, and what they hold changes nothing else (the
spec's choice, 92_eei_decisions.md D23). -/
def Obligations.InertFlagsAreNeitherWrittenNorRead : Prop :=
  (∀ s t : State, step s = .next t →
    t.flags.tf = s.flags.tf ∧ t.flags.if_ = s.flags.if_ ∧ t.flags.df = s.flags.df) ∧
  ∀ (s : State) (x y z : Bool), step (s.withInert x y z) = mapNext (State.withInert x y z) (step s)

/-- R27, R61, R62: under FLAT no step reads ES, SS or DS (derived from the addresses of R61 and R62). -/
def Obligations.FlatAddressingReadsNoDataSegment : Prop :=
  ∀ (s : State) (es ss ds : Word), s.params.dataAddressing = .flat →
    step (s.withDataSegs es ss ds) = mapNext (State.withDataSegs es ss ds) (step s)

/-- R167: after an executed instruction, HLT included, IP is the offset of the byte after it modulo 2^16, which is
1 + L + d bytes on; an UNIMPLEMENTED opcode and an error leave IP. The advance is the spec's decision
(92_eei_decisions.md D3), and so is what an error leaves (D11; DEDUCED, log entry 11). The length 1 of an UNIMPLEMENTED
or UNSETTLED instruction is the model's filler (DESIGN CHOICE, log entry 25). -/
def Obligations.IpAdvancesByTheLength : Prop :=
  (∀ (i : Instr) (s t : State), exec i s = .next t →
    (classOf i.opcode = .unimplemented ∧ t.ip = s.ip) ∨
    (∃ e, t = s.raiseError e) ∨
    (classOf i.opcode ≠ .unimplemented ∧ t.ip = BitVec.ofNat 16 (s.ip.toNat + (encode i).length))) ∧
  ∀ (p : Mod00Rm110) (i : Instr), i.wf p = true →
    (encode i).length = 1 + (shapeOf i.opcode).operandCount + dispCountOf p i

/-- R356: a step halts the machine only on HLT or on an UNIMPLEMENTED opcode, and records which. -/
def Obligations.OnlyHltAndUnimplementedHalt : Prop :=
  ∀ s t : State, step s = .next t → t.halted = true →
    (s.byteAt s.physIp = 0xF4 ∧ t.haltReason = some .hlt) ∨
    (classOf (s.byteAt s.physIp) = .unimplemented ∧
      t.haltReason = some (.unimplementedOpcode (s.byteAt s.physIp)))

/-- R177, and the same for an error (R178): `run` on a machine that is not Running takes no step and reports the same
each time. The third outcome, for an error, is the spec's decision (92_eei_decisions.md D11), and ERROR comes before
HALTED as in R176 (log entry 10). -/
def Obligations.RunOfAStoppedMachineTakesNoStep : Prop :=
  (∀ (s : State) (n : Nat), s.error = none → s.halted = true → run n s = (.halted s.haltReason, s)) ∧
  (∀ (s : State) (e : Error) (n : Nat), s.error = some e → run n s = (.error e, s))

/-- R176: a run of m + n steps is a run of m steps and, if those used up their budget, a run of n more. What `run`
answers is the spec's decision (92_eei_decisions.md D13); the state beside a refusal is the model's (log entry 20). -/
def Obligations.RunsCompose : Prop :=
  ∀ (m n : Nat) (s : State),
    run (m + n) s = if (run m s).1 = .stepLimitReached then run n (run m s).2 else run m s

/-- R176, R178, R179: a step that halts the machine, raises an error or is refused counts as a step of the budget: on
the budget before it `run` reports StepLimitReached, and on every budget that reaches it Halted with the reason, Error
with the error, or that the run is refused (R172). That such a step counts, and that a refused step makes the run
refused, is the spec's decision (92_eei_decisions.md D13), as is the outcome Error (D11; log entry 11); the state beside
a refusal is the model's choice (DESIGN CHOICE, log entry 20). -/
def Obligations.TheHaltingStepCounts : Prop :=
  ∀ (k : Nat) (s t : State), run k s = (.stepLimitReached, t) →
    (∀ u, step t = .next u → u.error = none → u.halted = true →
      ∀ n, run (k + 1 + n) s = (.halted u.haltReason, u)) ∧
    (∀ u e, step t = .next u → u.error = some e → ∀ n, run (k + 1 + n) s = (.error e, u)) ∧
    (∀ r, step t = .refused r → ∀ n, run (k + 1 + n) s = (.refused r, t))

/-! ### The instructions: where each completes, and with what -/

/-- ADD and ADC in all six forms (R210 to R215, R222 to R227): the spec's 8086 reading, from general knowledge
(92_eei_decisions.md D24; log entry 13). -/
def Obligations.AddAndAdcComplete : Prop :=
  AluCompletes .add true (fun w a b _ => ruleAdd w a b) ∧ AluCompletes .adc true (fun w a b c => ruleAdc w a b c)

/-- SUB and SBB in all six forms (R240 to R245, R228 to R233): the spec's 8086 reading, from general knowledge
(92_eei_decisions.md D24; log entry 13). -/
def Obligations.SubAndSbbComplete : Prop :=
  AluCompletes .sub true (fun w a b _ => ruleSub w a b) ∧ AluCompletes .sbb true (fun w a b c => ruleSbb w a b c)

/-- AND, OR and XOR in all six forms (R234 to R239, R216 to R221, R246 to R251); AND and XOR r/m16, r16 under either
policy; the others are the spec's 8086 reading (92_eei_decisions.md D24; log entry 13). That AF is not written is the
spec's decision (D16). -/
def Obligations.LogicalOperationsComplete : Prop :=
  AluCompletes .and true (fun w a b _ => ruleLogic w (a &&& b)) ∧
  AluCompletes .or true (fun w a b _ => ruleLogic w (a ||| b)) ∧
  AluCompletes .xor true (fun w a b _ => ruleLogic w (a ^^^ b))

/-- CMP in all six forms: the flags of SUB and no write (R252 to R257); the spec's 8086 reading
(92_eei_decisions.md D24; log entry 13). -/
def Obligations.CmpCompletes : Prop := AluCompletes .cmp false (fun w a b _ => ruleSub w a b)

/-- INC and DEC of each of the eight registers (R300, R302 to R317): result, five flags, CF kept, IP past the
byte; the spec's 8086 reading (92_eei_decisions.md D24; log entry 13). -/
def Obligations.IncAndDecComplete : Prop :=
  ∀ (r : Reg16) (s : State), s.params.provisionalPolicy = .execute →
    exec (incOf r) s =
      .next (((s.setR16 r (ruleAdd 16 (s.r16 r) 1).1).setFlags
        (s.flags.update (withoutCf (ruleAdd 16 (s.r16 r) 1)).2)).advance 1) ∧
    exec (decOf r) s =
      .next (((s.setR16 r (ruleSub 16 (s.r16 r) 1).1).setFlags
        (s.flags.update (withoutCf (ruleSub 16 (s.r16 r) 1)).2)).advance 1)

/-- PUSH and POP of each of the eight registers, with a stack word in bounds (R301, R318 to R333): PUSH SP stores the
decremented SP, and POP SP leaves the popped word in SP; the spec's 8086 reading (92_eei_decisions.md D24; log
entry 13). -/
def Obligations.PushAndPopComplete : Prop :=
  ∀ (r : Reg16) (s : State), s.params.provisionalPolicy = .execute →
    (stackPA s (s.gpr.sp - 2) + 1 < s.params.memSize →
      exec (pushOf r) s =
        .next (((s.storeWord (stackPA s (s.gpr.sp - 2)) (if r = .sp then s.gpr.sp - 2 else s.r16 r)).setR16 .sp
          (s.gpr.sp - 2)).advance 1)) ∧
    (stackPA s s.gpr.sp + 1 < s.params.memSize →
      exec (popOf r) s =
        .next (((s.setR16 .sp (s.gpr.sp + 2)).setR16 r (s.wordAt (stackPA s s.gpr.sp))).advance 1))

/-- R341: a memory operand or a stack word out of bounds raises OutOfBounds with its address, and so does, at the level
of a step, an instruction byte out of bounds (R163, R165): an opcode byte, and an operand or displacement byte where
the bytes before it are in bounds. That nothing else changes is the spec's decision (92_eei_decisions.md D11; DEDUCED,
log entry 11), and the PROVISIONAL forms are its 8086 reading (D24; PRESUMED, log entry 13). -/
def Obligations.OutOfBoundsOperandsRaise : Prop :=
  (∀ (k : AluKind) (s : State) (m : MemOperand),
    (s.byteInBounds (operandPA s m) = false →
      (∀ r, s.MayRun ((aluForms k).rmR8 (.mem m) r).opcode →
        exec ((aluForms k).rmR8 (.mem m) r) s = .next (s.raiseError (.outOfBounds (operandPA s m)))) ∧
      (∀ r, s.MayRun ((aluForms k).rRm8 r (.mem m)).opcode →
        exec ((aluForms k).rRm8 r (.mem m)) s = .next (s.raiseError (.outOfBounds (operandPA s m))))) ∧
    (s.wordInBounds (operandPA s m) = false →
      (∀ r, s.MayRun ((aluForms k).rmR16 (.mem m) r).opcode →
        exec ((aluForms k).rmR16 (.mem m) r) s = .next (s.raiseError (.outOfBounds (operandPA s m)))) ∧
      (∀ r, s.MayRun ((aluForms k).rRm16 r (.mem m)).opcode →
        exec ((aluForms k).rRm16 r (.mem m)) s = .next (s.raiseError (.outOfBounds (operandPA s m)))))) ∧
  (∀ (r : Reg16) (s : State), s.params.provisionalPolicy = .execute →
    (s.wordInBounds (stackPA s (s.gpr.sp - 2)) = false →
      exec (pushOf r) s = .next (s.raiseError (.outOfBounds (stackPA s (s.gpr.sp - 2))))) ∧
    (s.wordInBounds (stackPA s s.gpr.sp) = false →
      exec (popOf r) s = .next (s.raiseError (.outOfBounds (stackPA s s.gpr.sp))))) ∧
  (∀ s : State, s.Running → s.params.memSize ≤ s.physIp → step s = .next (s.raiseError (.outOfBounds s.physIp))) ∧
  (∀ (s : State) (i : Instr) (n : Nat), s.Running → i.wf s.params.mod00Rm110 = true → s.MayRun i.opcode →
    s.physIp + n = s.params.memSize → n < (encode i).length → 0 < n → s.ip.toNat + n ≤ 0xFFFF →
    s.Holds s.physIp ((encode i).take n) → step s = .next (s.raiseError (.outOfBounds (s.physIp + n))))

/-! ### The instructions: what each leaves unchanged -/

/-- The frame of the ALU forms with an r/m destination (43_alu_instructions.md R200, forms 0 and 1): only the
destination register or the destination's bytes change, CMP changes neither, the logical kinds keep AF. That AF stays is
the spec's decision (92_eei_decisions.md D16), as is what an error leaves (D11; DEDUCED, log entry 11); the PROVISIONAL
forms are its 8086 reading (D24; PRESUMED, log entry 13). -/
def Obligations.RmDestinationFrame : Prop :=
  ∀ (k : AluKind) (s t : State), Memory.wf s.mem = true →
    (∀ (rm : Rm8) (r : Reg8), exec ((aluForms k).rmR8 rm r) s = .next t →
      KeepsSystem s t ∧ RaisesOrKeepsError s t ∧
      (∀ q, k = .cmp ∨ rm ≠ .reg q → t.r8 q = s.r8 q) ∧
      (∀ q, q ∈ [Reg16.sp, .bp, .si, .di] → t.r16 q = s.r16 q) ∧
      (∀ a, k = .cmp ∨ resolve8 s rm ≠ .mem a → t.byteAt a = s.byteAt a) ∧
      (k = .and ∨ k = .or ∨ k = .xor → t.flags.af = s.flags.af)) ∧
    (∀ (rm : Rm16) (r : Reg16), exec ((aluForms k).rmR16 rm r) s = .next t →
      KeepsSystem s t ∧ RaisesOrKeepsError s t ∧
      (∀ q, k = .cmp ∨ rm ≠ .reg q → t.r16 q = s.r16 q) ∧
      (∀ a, (k = .cmp ∨ ∀ pa, resolve16 s rm = .mem pa → a ≠ pa ∧ a ≠ pa + 1) → t.byteAt a = s.byteAt a) ∧
      (k = .and ∨ k = .or ∨ k = .xor → t.flags.af = s.flags.af))

/-- The frame of the ALU forms with a register destination (R200, forms 2 and 3, and R201): only that register
changes, CMP changes none, no byte of memory changes. That AF stays after the logical kinds is the spec's decision
(92_eei_decisions.md D16), as is what an error leaves (D11; DEDUCED, log entry 11); these forms are its 8086 reading
(D24; PRESUMED, log entry 13). -/
def Obligations.RegisterDestinationFrame : Prop :=
  ∀ (k : AluKind) (s t : State),
    (∀ (r : Reg8) (i : Instr),
      ((∃ rm, i = (aluForms k).rRm8 r rm) ∨ (r = .al ∧ ∃ imm, i = (aluForms k).alImm imm)) → exec i s = .next t →
      KeepsSystem s t ∧ RaisesOrKeepsError s t ∧ t.mem = s.mem ∧
      (∀ q, k = .cmp ∨ q ≠ r → t.r8 q = s.r8 q) ∧
      (∀ q, q ∈ [Reg16.sp, .bp, .si, .di] → t.r16 q = s.r16 q) ∧
      (k = .and ∨ k = .or ∨ k = .xor → t.flags.af = s.flags.af)) ∧
    (∀ (r : Reg16) (i : Instr),
      ((∃ rm, i = (aluForms k).rRm16 r rm) ∨ (r = .ax ∧ ∃ imm, i = (aluForms k).axImm imm)) → exec i s = .next t →
      KeepsSystem s t ∧ RaisesOrKeepsError s t ∧ t.mem = s.mem ∧
      (∀ q, k = .cmp ∨ q ≠ r → t.r16 q = s.r16 q) ∧
      (k = .and ∨ k = .or ∨ k = .xor → t.flags.af = s.flags.af))

/-- The frame of INC, DEC, PUSH and POP (R300, R301): INC and DEC change one register and no CF; PUSH changes SP and
the two bytes of the stack word; POP changes SP and the register popped; PUSH and POP change no flag. All four are the
spec's 8086 reading (92_eei_decisions.md D24; PRESUMED, log entry 13), and what an error leaves is its decision (D11;
DEDUCED, log entry 11). -/
def Obligations.IncDecAndStackFrame : Prop :=
  ∀ (r : Reg16) (s t : State), Memory.wf s.mem = true →
    (exec (incOf r) s = .next t ∨ exec (decOf r) s = .next t →
      KeepsSystem s t ∧ t.error = s.error ∧ t.mem = s.mem ∧ t.flags.cf = s.flags.cf ∧
      ∀ q, q ≠ r → t.r16 q = s.r16 q) ∧
    (exec (pushOf r) s = .next t →
      KeepsSystem s t ∧ RaisesOrKeepsError s t ∧ t.flags = s.flags ∧ (∀ q, q ≠ .sp → t.r16 q = s.r16 q) ∧
      ∀ a, a ≠ stackPA s (s.gpr.sp - 2) → a ≠ stackPA s (s.gpr.sp - 2) + 1 → t.byteAt a = s.byteAt a) ∧
    (exec (popOf r) s = .next t →
      KeepsSystem s t ∧ RaisesOrKeepsError s t ∧ t.flags = s.flags ∧ t.mem = s.mem ∧
      ∀ q, q ≠ .sp → q ≠ r → t.r16 q = s.r16 q)
end

