-- ==== Sys2Proof/Laws/Decode.lean ====
section
/-! SUPPORT. The fields of a mode byte, the ids of registers and base sums, and what the decoder reads from the bytes
the encoder writes (30_encoding.md R72 to R79). -/

namespace Sys2Proof

/-! ### Ids -/

@[simp] theorem Reg16.ofId_id (r : Reg16) : Reg16.ofId r.id = r := by cases r <;> rfl
@[simp] theorem Reg8.ofId_id (r : Reg8) : Reg8.ofId r.id = r := by cases r <;> rfl
@[simp] theorem Base.ofId_id (b : Base) : Base.ofId b.id = b := by cases b <;> rfl
@[simp] theorem Reg16.id_ofId (i : Field3) : (Reg16.ofId i).id = i := by revert i; decide
@[simp] theorem Reg8.id_ofId (i : Field3) : (Reg8.ofId i).id = i := by revert i; decide
@[simp] theorem Base.id_ofId (i : Field3) : (Base.ofId i).id = i := by revert i; decide

/-! ### The mode byte -/

@[simp] theorem modField_modeByte (m : BitVec 2) (r rm : Field3) : modField (modeByte m r rm) = m := by
  revert m r rm; decide
@[simp] theorem regField_modeByte (m : BitVec 2) (r rm : Field3) : regField (modeByte m r rm) = r := by
  revert m r rm; decide
@[simp] theorem rmField_modeByte (m : BitVec 2) (r rm : Field3) : rmField (modeByte m r rm) = rm := by
  revert m r rm; decide

/-- A mode byte is its three fields. -/
theorem modeByte_fields (b : Byte) : modeByte (modField b) (regField b) (rmField b) = b := by
  simp only [modeByte, modField, regField, rmField]
  ext i hi
  simp only [BitVec.getElem_append, BitVec.getElem_extractLsb']
  interval_cases i <;> rfl

/-! ### Lengths -/

theorem MemOperand.encode_length (r : Field3) (m : MemOperand) :
    1 ≤ (m.encode r).length ∧ (m.encode r).length ≤ 3 := by
  cases m <;> simp [MemOperand.encode, wordBytes]

theorem Rm8.encode_length (r : Reg8) (rm : Rm8) : 1 ≤ (rm.encode r).length ∧ (rm.encode r).length ≤ 3 := by
  cases rm with
  | reg q => simp [Rm8.encode]
  | mem m => exact MemOperand.encode_length r.id m

theorem Rm16.encode_length (r : Reg16) (rm : Rm16) : 1 ≤ (rm.encode r).length ∧ (rm.encode r).length ≤ 3 := by
  cases rm with
  | reg q => simp [Rm16.encode]
  | mem m => exact MemOperand.encode_length r.id m

end Sys2Proof
end

