-- ==== Sys2Proof/Laws/State.lean ====
section
/-! SUPPORT. One lemma per field of State per named update: what the update does to the field. -/

namespace Sys2Proof.Machine

@[simp] theorem State.storeByte_gpr (s : State) (a : Nat) (v : Byte) : (s.storeByte a v).gpr = s.gpr := rfl
@[simp] theorem State.storeByte_seg (s : State) (a : Nat) (v : Byte) : (s.storeByte a v).seg = s.seg := rfl
@[simp] theorem State.storeByte_ip (s : State) (a : Nat) (v : Byte) : (s.storeByte a v).ip = s.ip := rfl
@[simp] theorem State.storeByte_flags (s : State) (a : Nat) (v : Byte) : (s.storeByte a v).flags = s.flags := rfl
@[simp] theorem State.storeByte_halted (s : State) (a : Nat) (v : Byte) : (s.storeByte a v).halted = s.halted := rfl
@[simp] theorem State.storeByte_haltReason (s : State) (a : Nat) (v : Byte) : (s.storeByte a v).haltReason = s.haltReason := rfl
@[simp] theorem State.storeByte_error (s : State) (a : Nat) (v : Byte) : (s.storeByte a v).error = s.error := rfl
@[simp] theorem State.storeByte_mem (s : State) (a : Nat) (v : Byte) : (s.storeByte a v).mem = Memory.write s.mem a v := rfl
@[simp] theorem State.storeByte_params (s : State) (a : Nat) (v : Byte) : (s.storeByte a v).params = s.params := rfl

@[simp] theorem State.storeWord_gpr (s : State) (a : Nat) (v : Word) : (s.storeWord a v).gpr = s.gpr := rfl
@[simp] theorem State.storeWord_seg (s : State) (a : Nat) (v : Word) : (s.storeWord a v).seg = s.seg := rfl
@[simp] theorem State.storeWord_ip (s : State) (a : Nat) (v : Word) : (s.storeWord a v).ip = s.ip := rfl
@[simp] theorem State.storeWord_flags (s : State) (a : Nat) (v : Word) : (s.storeWord a v).flags = s.flags := rfl
@[simp] theorem State.storeWord_halted (s : State) (a : Nat) (v : Word) : (s.storeWord a v).halted = s.halted := rfl
@[simp] theorem State.storeWord_haltReason (s : State) (a : Nat) (v : Word) : (s.storeWord a v).haltReason = s.haltReason := rfl
@[simp] theorem State.storeWord_error (s : State) (a : Nat) (v : Word) : (s.storeWord a v).error = s.error := rfl
@[simp] theorem State.storeWord_mem (s : State) (a : Nat) (v : Word) : (s.storeWord a v).mem = Memory.write (Memory.write s.mem a (loByte v)) (a + 1) (hiByte v) := rfl
@[simp] theorem State.storeWord_params (s : State) (a : Nat) (v : Word) : (s.storeWord a v).params = s.params := rfl

@[simp] theorem State.setR16_seg (s : State) (r : Reg16) (v : Word) : (s.setR16 r v).seg = s.seg := by cases r <;> rfl
@[simp] theorem State.setR16_ip (s : State) (r : Reg16) (v : Word) : (s.setR16 r v).ip = s.ip := by cases r <;> rfl
@[simp] theorem State.setR16_flags (s : State) (r : Reg16) (v : Word) : (s.setR16 r v).flags = s.flags := by cases r <;> rfl
@[simp] theorem State.setR16_halted (s : State) (r : Reg16) (v : Word) : (s.setR16 r v).halted = s.halted := by cases r <;> rfl
@[simp] theorem State.setR16_haltReason (s : State) (r : Reg16) (v : Word) : (s.setR16 r v).haltReason = s.haltReason := by cases r <;> rfl
@[simp] theorem State.setR16_error (s : State) (r : Reg16) (v : Word) : (s.setR16 r v).error = s.error := by cases r <;> rfl
@[simp] theorem State.setR16_mem (s : State) (r : Reg16) (v : Word) : (s.setR16 r v).mem = s.mem := by cases r <;> rfl
@[simp] theorem State.setR16_params (s : State) (r : Reg16) (v : Word) : (s.setR16 r v).params = s.params := by cases r <;> rfl

@[simp] theorem State.setR8_seg (s : State) (r : Reg8) (v : Byte) : (s.setR8 r v).seg = s.seg := by cases r <;> rfl
@[simp] theorem State.setR8_ip (s : State) (r : Reg8) (v : Byte) : (s.setR8 r v).ip = s.ip := by cases r <;> rfl
@[simp] theorem State.setR8_flags (s : State) (r : Reg8) (v : Byte) : (s.setR8 r v).flags = s.flags := by cases r <;> rfl
@[simp] theorem State.setR8_halted (s : State) (r : Reg8) (v : Byte) : (s.setR8 r v).halted = s.halted := by cases r <;> rfl
@[simp] theorem State.setR8_haltReason (s : State) (r : Reg8) (v : Byte) : (s.setR8 r v).haltReason = s.haltReason := by cases r <;> rfl
@[simp] theorem State.setR8_error (s : State) (r : Reg8) (v : Byte) : (s.setR8 r v).error = s.error := by cases r <;> rfl
@[simp] theorem State.setR8_mem (s : State) (r : Reg8) (v : Byte) : (s.setR8 r v).mem = s.mem := by cases r <;> rfl
@[simp] theorem State.setR8_params (s : State) (r : Reg8) (v : Byte) : (s.setR8 r v).params = s.params := by cases r <;> rfl

@[simp] theorem State.setSreg_gpr (s : State) (r : SegReg) (v : Word) : (s.setSreg r v).gpr = s.gpr := by cases r <;> rfl
@[simp] theorem State.setSreg_ip (s : State) (r : SegReg) (v : Word) : (s.setSreg r v).ip = s.ip := by cases r <;> rfl
@[simp] theorem State.setSreg_flags (s : State) (r : SegReg) (v : Word) : (s.setSreg r v).flags = s.flags := by cases r <;> rfl
@[simp] theorem State.setSreg_halted (s : State) (r : SegReg) (v : Word) : (s.setSreg r v).halted = s.halted := by cases r <;> rfl
@[simp] theorem State.setSreg_haltReason (s : State) (r : SegReg) (v : Word) : (s.setSreg r v).haltReason = s.haltReason := by cases r <;> rfl
@[simp] theorem State.setSreg_error (s : State) (r : SegReg) (v : Word) : (s.setSreg r v).error = s.error := by cases r <;> rfl
@[simp] theorem State.setSreg_mem (s : State) (r : SegReg) (v : Word) : (s.setSreg r v).mem = s.mem := by cases r <;> rfl
@[simp] theorem State.setSreg_params (s : State) (r : SegReg) (v : Word) : (s.setSreg r v).params = s.params := by cases r <;> rfl

@[simp] theorem State.setFlags_gpr (s : State) (f : Flags) : (s.setFlags f).gpr = s.gpr := rfl
@[simp] theorem State.setFlags_seg (s : State) (f : Flags) : (s.setFlags f).seg = s.seg := rfl
@[simp] theorem State.setFlags_ip (s : State) (f : Flags) : (s.setFlags f).ip = s.ip := rfl
@[simp] theorem State.setFlags_flags (s : State) (f : Flags) : (s.setFlags f).flags = f := rfl
@[simp] theorem State.setFlags_halted (s : State) (f : Flags) : (s.setFlags f).halted = s.halted := rfl
@[simp] theorem State.setFlags_haltReason (s : State) (f : Flags) : (s.setFlags f).haltReason = s.haltReason := rfl
@[simp] theorem State.setFlags_error (s : State) (f : Flags) : (s.setFlags f).error = s.error := rfl
@[simp] theorem State.setFlags_mem (s : State) (f : Flags) : (s.setFlags f).mem = s.mem := rfl
@[simp] theorem State.setFlags_params (s : State) (f : Flags) : (s.setFlags f).params = s.params := rfl

@[simp] theorem State.advance_gpr (s : State) (n : Nat) : (s.advance n).gpr = s.gpr := rfl
@[simp] theorem State.advance_seg (s : State) (n : Nat) : (s.advance n).seg = s.seg := rfl
@[simp] theorem State.advance_ip (s : State) (n : Nat) : (s.advance n).ip = s.ip + BitVec.ofNat 16 n := rfl
@[simp] theorem State.advance_flags (s : State) (n : Nat) : (s.advance n).flags = s.flags := rfl
@[simp] theorem State.advance_halted (s : State) (n : Nat) : (s.advance n).halted = s.halted := rfl
@[simp] theorem State.advance_haltReason (s : State) (n : Nat) : (s.advance n).haltReason = s.haltReason := rfl
@[simp] theorem State.advance_error (s : State) (n : Nat) : (s.advance n).error = s.error := rfl
@[simp] theorem State.advance_mem (s : State) (n : Nat) : (s.advance n).mem = s.mem := rfl
@[simp] theorem State.advance_params (s : State) (n : Nat) : (s.advance n).params = s.params := rfl

@[simp] theorem State.halt_gpr (s : State) (x : HaltReason) : (s.halt x).gpr = s.gpr := rfl
@[simp] theorem State.halt_seg (s : State) (x : HaltReason) : (s.halt x).seg = s.seg := rfl
@[simp] theorem State.halt_ip (s : State) (x : HaltReason) : (s.halt x).ip = s.ip := rfl
@[simp] theorem State.halt_flags (s : State) (x : HaltReason) : (s.halt x).flags = s.flags := rfl
@[simp] theorem State.halt_halted (s : State) (x : HaltReason) : (s.halt x).halted = true := rfl
@[simp] theorem State.halt_haltReason (s : State) (x : HaltReason) : (s.halt x).haltReason = some x := rfl
@[simp] theorem State.halt_error (s : State) (x : HaltReason) : (s.halt x).error = s.error := rfl
@[simp] theorem State.halt_mem (s : State) (x : HaltReason) : (s.halt x).mem = s.mem := rfl
@[simp] theorem State.halt_params (s : State) (x : HaltReason) : (s.halt x).params = s.params := rfl

@[simp] theorem State.raiseError_gpr (s : State) (e : Error) : (s.raiseError e).gpr = s.gpr := rfl
@[simp] theorem State.raiseError_seg (s : State) (e : Error) : (s.raiseError e).seg = s.seg := rfl
@[simp] theorem State.raiseError_ip (s : State) (e : Error) : (s.raiseError e).ip = s.ip := rfl
@[simp] theorem State.raiseError_flags (s : State) (e : Error) : (s.raiseError e).flags = s.flags := rfl
@[simp] theorem State.raiseError_halted (s : State) (e : Error) : (s.raiseError e).halted = s.halted := rfl
@[simp] theorem State.raiseError_haltReason (s : State) (e : Error) : (s.raiseError e).haltReason = s.haltReason := rfl
@[simp] theorem State.raiseError_error (s : State) (e : Error) : (s.raiseError e).error = some e := rfl
@[simp] theorem State.raiseError_mem (s : State) (e : Error) : (s.raiseError e).mem = s.mem := rfl
@[simp] theorem State.raiseError_params (s : State) (e : Error) : (s.raiseError e).params = s.params := rfl

@[simp] theorem State.storeByte_r16 (s : State) (a : Nat) (v : Byte) (q : Reg16) : (s.storeByte a v).r16 q = s.r16 q := by cases q <;> rfl
@[simp] theorem State.storeByte_r8 (s : State) (a : Nat) (v : Byte) (q : Reg8) : (s.storeByte a v).r8 q = s.r8 q := by cases q <;> rfl
@[simp] theorem State.storeByte_sreg (s : State) (a : Nat) (v : Byte) (q : SegReg) : (s.storeByte a v).sreg q = s.sreg q := by simp [State.sreg]
@[simp] theorem State.storeByte_byteInBounds (s : State) (b : Nat) (v : Byte) (a : Nat) : (s.storeByte b v).byteInBounds a = s.byteInBounds a := rfl
@[simp] theorem State.storeByte_wordInBounds (s : State) (b : Nat) (v : Byte) (a : Nat) : (s.storeByte b v).wordInBounds a = s.wordInBounds a := rfl

@[simp] theorem State.storeWord_r16 (s : State) (a : Nat) (v : Word) (q : Reg16) : (s.storeWord a v).r16 q = s.r16 q := by cases q <;> rfl
@[simp] theorem State.storeWord_r8 (s : State) (a : Nat) (v : Word) (q : Reg8) : (s.storeWord a v).r8 q = s.r8 q := by cases q <;> rfl
@[simp] theorem State.storeWord_sreg (s : State) (a : Nat) (v : Word) (q : SegReg) : (s.storeWord a v).sreg q = s.sreg q := by simp [State.sreg]
@[simp] theorem State.storeWord_byteInBounds (s : State) (b : Nat) (v : Word) (a : Nat) : (s.storeWord b v).byteInBounds a = s.byteInBounds a := rfl
@[simp] theorem State.storeWord_wordInBounds (s : State) (b : Nat) (v : Word) (a : Nat) : (s.storeWord b v).wordInBounds a = s.wordInBounds a := rfl

@[simp] theorem State.setR16_sreg (s : State) (r : Reg16) (v : Word) (q : SegReg) : (s.setR16 r v).sreg q = s.sreg q := by simp [State.sreg]
@[simp] theorem State.setR16_byteAt (s : State) (r : Reg16) (v : Word) (a : Nat) : (s.setR16 r v).byteAt a = s.byteAt a := by simp [State.byteAt]
@[simp] theorem State.setR16_wordAt (s : State) (r : Reg16) (v : Word) (a : Nat) : (s.setR16 r v).wordAt a = s.wordAt a := by simp [State.wordAt]
@[simp] theorem State.setR16_byteInBounds (s : State) (r : Reg16) (v : Word) (a : Nat) : (s.setR16 r v).byteInBounds a = s.byteInBounds a := by cases r <;> rfl
@[simp] theorem State.setR16_wordInBounds (s : State) (r : Reg16) (v : Word) (a : Nat) : (s.setR16 r v).wordInBounds a = s.wordInBounds a := by cases r <;> rfl

@[simp] theorem State.setR8_sreg (s : State) (r : Reg8) (v : Byte) (q : SegReg) : (s.setR8 r v).sreg q = s.sreg q := by simp [State.sreg]
@[simp] theorem State.setR8_byteAt (s : State) (r : Reg8) (v : Byte) (a : Nat) : (s.setR8 r v).byteAt a = s.byteAt a := by simp [State.byteAt]
@[simp] theorem State.setR8_wordAt (s : State) (r : Reg8) (v : Byte) (a : Nat) : (s.setR8 r v).wordAt a = s.wordAt a := by simp [State.wordAt]
@[simp] theorem State.setR8_byteInBounds (s : State) (r : Reg8) (v : Byte) (a : Nat) : (s.setR8 r v).byteInBounds a = s.byteInBounds a := by cases r <;> rfl
@[simp] theorem State.setR8_wordInBounds (s : State) (r : Reg8) (v : Byte) (a : Nat) : (s.setR8 r v).wordInBounds a = s.wordInBounds a := by cases r <;> rfl

@[simp] theorem State.setSreg_r16 (s : State) (r : SegReg) (v : Word) (q : Reg16) : (s.setSreg r v).r16 q = s.r16 q := by simp [State.r16]
@[simp] theorem State.setSreg_r8 (s : State) (r : SegReg) (v : Word) (q : Reg8) : (s.setSreg r v).r8 q = s.r8 q := by simp [State.r8]
@[simp] theorem State.setSreg_byteAt (s : State) (r : SegReg) (v : Word) (a : Nat) : (s.setSreg r v).byteAt a = s.byteAt a := by simp [State.byteAt]
@[simp] theorem State.setSreg_wordAt (s : State) (r : SegReg) (v : Word) (a : Nat) : (s.setSreg r v).wordAt a = s.wordAt a := by simp [State.wordAt]
@[simp] theorem State.setSreg_byteInBounds (s : State) (r : SegReg) (v : Word) (a : Nat) : (s.setSreg r v).byteInBounds a = s.byteInBounds a := by cases r <;> rfl
@[simp] theorem State.setSreg_wordInBounds (s : State) (r : SegReg) (v : Word) (a : Nat) : (s.setSreg r v).wordInBounds a = s.wordInBounds a := by cases r <;> rfl

@[simp] theorem State.setFlags_r16 (s : State) (f : Flags) (q : Reg16) : (s.setFlags f).r16 q = s.r16 q := by cases q <;> rfl
@[simp] theorem State.setFlags_r8 (s : State) (f : Flags) (q : Reg8) : (s.setFlags f).r8 q = s.r8 q := by cases q <;> rfl
@[simp] theorem State.setFlags_sreg (s : State) (f : Flags) (q : SegReg) : (s.setFlags f).sreg q = s.sreg q := by simp [State.sreg]
@[simp] theorem State.setFlags_byteAt (s : State) (f : Flags) (a : Nat) : (s.setFlags f).byteAt a = s.byteAt a := by simp [State.byteAt]
@[simp] theorem State.setFlags_wordAt (s : State) (f : Flags) (a : Nat) : (s.setFlags f).wordAt a = s.wordAt a := by simp [State.wordAt]
@[simp] theorem State.setFlags_byteInBounds (s : State) (f : Flags) (a : Nat) : (s.setFlags f).byteInBounds a = s.byteInBounds a := rfl
@[simp] theorem State.setFlags_wordInBounds (s : State) (f : Flags) (a : Nat) : (s.setFlags f).wordInBounds a = s.wordInBounds a := rfl

@[simp] theorem State.advance_r16 (s : State) (n : Nat) (q : Reg16) : (s.advance n).r16 q = s.r16 q := by cases q <;> rfl
@[simp] theorem State.advance_r8 (s : State) (n : Nat) (q : Reg8) : (s.advance n).r8 q = s.r8 q := by cases q <;> rfl
@[simp] theorem State.advance_sreg (s : State) (n : Nat) (q : SegReg) : (s.advance n).sreg q = s.sreg q := by simp [State.sreg]
@[simp] theorem State.advance_byteAt (s : State) (n : Nat) (a : Nat) : (s.advance n).byteAt a = s.byteAt a := by simp [State.byteAt]
@[simp] theorem State.advance_wordAt (s : State) (n : Nat) (a : Nat) : (s.advance n).wordAt a = s.wordAt a := by simp [State.wordAt]
@[simp] theorem State.advance_byteInBounds (s : State) (n : Nat) (a : Nat) : (s.advance n).byteInBounds a = s.byteInBounds a := rfl
@[simp] theorem State.advance_wordInBounds (s : State) (n : Nat) (a : Nat) : (s.advance n).wordInBounds a = s.wordInBounds a := rfl

@[simp] theorem State.halt_r16 (s : State) (x : HaltReason) (q : Reg16) : (s.halt x).r16 q = s.r16 q := by cases q <;> rfl
@[simp] theorem State.halt_r8 (s : State) (x : HaltReason) (q : Reg8) : (s.halt x).r8 q = s.r8 q := by cases q <;> rfl
@[simp] theorem State.halt_sreg (s : State) (x : HaltReason) (q : SegReg) : (s.halt x).sreg q = s.sreg q := by simp [State.sreg]
@[simp] theorem State.halt_byteAt (s : State) (x : HaltReason) (a : Nat) : (s.halt x).byteAt a = s.byteAt a := by simp [State.byteAt]
@[simp] theorem State.halt_wordAt (s : State) (x : HaltReason) (a : Nat) : (s.halt x).wordAt a = s.wordAt a := by simp [State.wordAt]
@[simp] theorem State.halt_byteInBounds (s : State) (x : HaltReason) (a : Nat) : (s.halt x).byteInBounds a = s.byteInBounds a := rfl
@[simp] theorem State.halt_wordInBounds (s : State) (x : HaltReason) (a : Nat) : (s.halt x).wordInBounds a = s.wordInBounds a := rfl

@[simp] theorem State.raiseError_r16 (s : State) (e : Error) (q : Reg16) : (s.raiseError e).r16 q = s.r16 q := by cases q <;> rfl
@[simp] theorem State.raiseError_r8 (s : State) (e : Error) (q : Reg8) : (s.raiseError e).r8 q = s.r8 q := by cases q <;> rfl
@[simp] theorem State.raiseError_sreg (s : State) (e : Error) (q : SegReg) : (s.raiseError e).sreg q = s.sreg q := by simp [State.sreg]
@[simp] theorem State.raiseError_byteAt (s : State) (e : Error) (a : Nat) : (s.raiseError e).byteAt a = s.byteAt a := by simp [State.byteAt]
@[simp] theorem State.raiseError_wordAt (s : State) (e : Error) (a : Nat) : (s.raiseError e).wordAt a = s.wordAt a := by simp [State.wordAt]
@[simp] theorem State.raiseError_byteInBounds (s : State) (e : Error) (a : Nat) : (s.raiseError e).byteInBounds a = s.byteInBounds a := rfl
@[simp] theorem State.raiseError_wordInBounds (s : State) (e : Error) (a : Nat) : (s.raiseError e).wordInBounds a = s.wordInBounds a := rfl

end Sys2Proof.Machine
end

