-- ==== Sys2Proof/Laws/Registers.lean ====
section
/-! SUPPORT. Reading a register after writing one (10_state.md R22 to R26), and the ids that name none. -/

namespace Sys2Proof.Machine

theorem joinBytes_toNat (hi lo : Byte) : (joinBytes hi lo).toNat = hi.toNat * 256 + lo.toNat := by
  unfold joinBytes
  rw [BitVec.toNat_append, ← Nat.shiftLeft_add_eq_or_of_lt lo.isLt, Nat.shiftLeft_eq]

theorem loByte_toNat (v : Word) : (loByte v).toNat = v.toNat % 256 := by
  simp [loByte]

theorem hiByte_toNat (v : Word) : (hiByte v).toNat = v.toNat / 256 := by
  have := v.isLt
  simp [hiByte, Nat.shiftRight_eq_div_pow]
  omega

@[simp] theorem loByte_joinBytes (hi lo : Byte) : loByte (joinBytes hi lo) = lo := by
  apply BitVec.eq_of_toNat_eq
  rw [loByte_toNat, joinBytes_toNat]
  omega

@[simp] theorem hiByte_joinBytes (hi lo : Byte) : hiByte (joinBytes hi lo) = hi := by
  apply BitVec.eq_of_toNat_eq
  rw [hiByte_toNat, joinBytes_toNat]
  omega

@[simp] theorem joinBytes_hiByte_loByte (v : Word) : joinBytes (hiByte v) (loByte v) = v := by
  apply BitVec.eq_of_toNat_eq
  rw [joinBytes_toNat, hiByte_toNat, loByte_toNat]
  omega

@[simp] theorem State.setR16_r16_same (s : State) (r : Reg16) (v : Word) : (s.setR16 r v).r16 r = v := by
  cases r <;> rfl

theorem State.setR16_r16_other (s : State) {r q : Reg16} (v : Word) (h : q ≠ r) : (s.setR16 r v).r16 q = s.r16 q := by
  cases r <;> cases q <;> first | rfl | exact absurd rfl h

@[simp] theorem State.setR8_r8_same (s : State) (r : Reg8) (v : Byte) : (s.setR8 r v).r8 r = v := by
  cases r <;> simp [State.setR8, State.r8, Reg8.isHigh, Reg8.parent]

theorem Reg8.eq_of_half {q r : Reg8} (hp : Reg8.parent q = Reg8.parent r) (hh : Reg8.isHigh q = Reg8.isHigh r) :
    q = r := by
  cases q <;> cases r <;> simp_all [Reg8.parent, Reg8.isHigh]

theorem State.setR8_r8_other (s : State) {r q : Reg8} (v : Byte) (h : q ≠ r) : (s.setR8 r v).r8 q = s.r8 q := by
  unfold State.setR8 State.r8
  by_cases hp : Reg8.parent q = Reg8.parent r
  · have hh : Reg8.isHigh q ≠ Reg8.isHigh r := fun hh => h (Reg8.eq_of_half hp hh)
    rw [hp]
    cases hq : Reg8.isHigh q <;> cases hr : Reg8.isHigh r <;> simp_all
  · simp [State.setR16_r16_other s _ hp]

/-- A byte write reaches only the register its half belongs to (R23). -/
theorem State.setR8_r16_other (s : State) {r : Reg8} {q : Reg16} (v : Byte) (h : q ≠ Reg8.parent r) :
    (s.setR8 r v).r16 q = s.r16 q :=
  State.setR16_r16_other s _ h

@[simp] theorem State.setSreg_sreg_same (s : State) (r : SegReg) (v : Word) : (s.setSreg r v).sreg r = v := by
  cases r <;> rfl

theorem State.setSreg_sreg_other (s : State) {r q : SegReg} (v : Word) (h : q ≠ r) :
    (s.setSreg r v).sreg q = s.sreg q := by
  cases r <;> cases q <;> first | rfl | exact absurd rfl h

/-! ### The ids of the accessors (10_state.md R26, 60_exceptions.md R342) -/

/-- A register id past 7 names no 16-bit register. -/
theorem reg16Of_outOfRange {id : Nat} (h : 8 ≤ id) : reg16Of id = .error (.invalidOperandEncoding id) :=
  if_neg (by omega)

/-- A register id past 7 names no byte register. -/
theorem reg8Of_outOfRange {id : Nat} (h : 8 ≤ id) : reg8Of id = .error (.invalidOperandEncoding id) :=
  if_neg (by omega)

/-- A segment id past 3 names no register. -/
theorem segRegOf_outOfRange {id : Nat} (h : 4 ≤ id) : segRegOf id = .error (.invalidOperandEncoding id) := by
  match id, h with | _ + 4, _ => rfl

end Sys2Proof.Machine
end

