-- ==== Sys2Proof/Laws/Memory.lean ====
section
/-! SUPPORT. The byte store: what a read gives after a write, and the canonical form every write keeps
(20_memory.md R51 to R58). -/

namespace Sys2Proof.Machine

theorem Memory.wfFrom_mono {m : Memory} {lo lo' : Nat} (h : Memory.wfFrom lo m = true) (hl : lo' ≤ lo) :
    Memory.wfFrom lo' m = true := by
  cases m with
  | nil => rfl
  | cons e rest =>
    simp only [Memory.wfFrom, Bool.and_eq_true, decide_eq_true_eq] at h ⊢
    exact ⟨⟨by omega, h.1.2⟩, h.2⟩

/-- Below its first address a canonical store lists nothing. -/
theorem Memory.read_of_lt {m : Memory} {lo a : Nat} (h : Memory.wfFrom lo m = true) (ha : a < lo) :
    Memory.read m a = Config.unwrittenByte := by
  cases m with
  | nil => rfl
  | cons e rest =>
    simp only [Memory.wfFrom, Bool.and_eq_true, decide_eq_true_eq] at h
    simp [Memory.read, show a ≠ e.1 by omega, show a < e.1 by omega]

theorem Memory.wfFrom_entry {m : Memory} {lo a : Nat} (v : Byte) (h : Memory.wfFrom (a + 1) m = true) (ha : lo ≤ a) :
    Memory.wfFrom lo (Memory.entry a v m) = true := by
  unfold Memory.entry
  split
  · exact Memory.wfFrom_mono h (by omega)
  · rename_i hv
    simp [Memory.wfFrom, ha, hv, h]

theorem Memory.wfFrom_write {m : Memory} : ∀ {lo a : Nat} (v : Byte), Memory.wfFrom lo m = true → lo ≤ a →
    Memory.wfFrom lo (Memory.write m a v) = true := by
  induction m with
  | nil => intro lo a v _ ha; exact Memory.wfFrom_entry v rfl ha
  | cons e rest ih =>
    intro lo a v h ha
    have hw := h
    simp only [Memory.wfFrom, Bool.and_eq_true, decide_eq_true_eq] at h
    simp only [Memory.write]
    split
    · next heq => subst heq; exact Memory.wfFrom_entry v h.2 ha
    · split
      · next hlt =>
        apply Memory.wfFrom_entry v _ ha
        simp only [Memory.wfFrom, Bool.and_eq_true, decide_eq_true_eq]
        exact ⟨⟨by omega, h.1.2⟩, h.2⟩
      · simp only [Memory.wfFrom, Bool.and_eq_true, decide_eq_true_eq]
        exact ⟨h.1, ih v h.2 (by omega)⟩

/-- Every write keeps the canonical form. -/
theorem Memory.wf_write {m : Memory} (a : Nat) (v : Byte) (h : Memory.wf m = true) :
    Memory.wf (Memory.write m a v) = true :=
  Memory.wfFrom_write v h (Nat.zero_le a)

theorem Memory.below_entry {m : Memory} {bound a : Nat} (v : Byte) (h : Memory.below bound m = true) (ha : a < bound) :
    Memory.below bound (Memory.entry a v m) = true := by
  unfold Memory.entry
  split
  · exact h
  · simp [Memory.below, ha, h]

/-- A write below a bound lists nothing at or above it. -/
theorem Memory.below_write {m : Memory} {bound a : Nat} (v : Byte) (h : Memory.below bound m = true) (ha : a < bound) :
    Memory.below bound (Memory.write m a v) = true := by
  induction m with
  | nil => exact Memory.below_entry v rfl ha
  | cons e rest ih =>
    have h' := h
    simp only [Memory.below, Bool.and_eq_true, decide_eq_true_eq] at h'
    simp only [Memory.write]
    split
    · exact Memory.below_entry v h'.2 ha
    · split
      · exact Memory.below_entry v h ha
      · simp [Memory.below, h'.1, ih h'.2]

theorem Memory.read_entry {m : Memory} {a x : Nat} (v : Byte) (h : Memory.wfFrom (a + 1) m = true) :
    Memory.read (Memory.entry a v m) x = if x = a then v else Memory.read m x := by
  unfold Memory.entry
  by_cases hv : v = Config.unwrittenByte
  · by_cases hx : x = a
    · subst hx hv; simp [Memory.read_of_lt h (Nat.lt_succ_self _)]
    · simp [hv, hx]
  · by_cases hx : x = a
    · simp [hv, hx, Memory.read]
    · by_cases hlt : x < a
      · simp [hv, hx, Memory.read, hlt, Memory.read_of_lt h (show x < a + 1 by omega)]
      · simp [hv, hx, Memory.read, hlt]

theorem Memory.read_writeFrom {m : Memory} : ∀ {lo : Nat} (a x : Nat) (v : Byte), Memory.wfFrom lo m = true →
    Memory.read (Memory.write m a v) x = if x = a then v else Memory.read m x := by
  induction m with
  | nil => intro lo a x v _; exact Memory.read_entry v rfl
  | cons e rest ih =>
    intro lo a x v h
    simp only [Memory.wfFrom, Bool.and_eq_true, decide_eq_true_eq] at h
    simp only [Memory.write]
    by_cases hae : a = e.1
    · subst hae
      rw [if_pos rfl, Memory.read_entry v h.2]
      by_cases hx : x = e.1
      · simp [hx]
      · by_cases hlt : x < e.1
        · simp [hx, hlt, Memory.read, Memory.read_of_lt h.2 (show x < e.1 + 1 by omega)]
        · simp [hx, hlt, Memory.read]
    · by_cases hlt : a < e.1
      · rw [if_neg hae, if_pos hlt, Memory.read_entry v]
        simp only [Memory.wfFrom, Bool.and_eq_true, decide_eq_true_eq]
        exact ⟨⟨by omega, h.1.2⟩, h.2⟩
      · rw [if_neg hae, if_neg hlt]
        simp only [Memory.read, ih a x v h.2]
        by_cases hx : x = a
        · subst hx; simp [hae, hlt]
        · simp [hx]

/-- A byte read after a byte write (20_memory.md R65): the value at the address, every other byte as before. -/
theorem Memory.read_write {m : Memory} (a x : Nat) (v : Byte) (h : Memory.wf m = true) :
    Memory.read (Memory.write m a v) x = if x = a then v else Memory.read m x :=
  Memory.read_writeFrom a x v h

theorem Memory.eq_of_readFrom {m : Memory} : ∀ {n : Memory} {lo : Nat}, Memory.wfFrom lo m = true →
    Memory.wfFrom lo n = true → (∀ a, Memory.read m a = Memory.read n a) → m = n := by
  induction m with
  | nil =>
    intro n lo _ hn h
    cases n with
    | nil => rfl
    | cons e rest =>
      simp only [Memory.wfFrom, Bool.and_eq_true, decide_eq_true_eq] at hn
      have := h e.1
      simp only [Memory.read, ↓reduceIte] at this
      exact absurd this.symm hn.1.2
  | cons e rest ih =>
    intro n lo hm hn h
    cases n with
    | nil =>
      simp only [Memory.wfFrom, Bool.and_eq_true, decide_eq_true_eq] at hm
      have := h e.1
      simp only [Memory.read, ↓reduceIte] at this
      exact absurd this hm.1.2
    | cons f more =>
      simp only [Memory.wfFrom, Bool.and_eq_true, decide_eq_true_eq] at hm hn
      have hk : e.1 = f.1 := by
        rcases Nat.lt_trichotomy e.1 f.1 with hlt | heq | hgt
        · have := h e.1
          simp only [Memory.read, ↓reduceIte, show e.1 ≠ f.1 by omega, hlt] at this
          exact absurd this hm.1.2
        · exact heq
        · have := h f.1
          simp only [Memory.read, ↓reduceIte, show f.1 ≠ e.1 by omega, hgt] at this
          exact absurd this.symm hn.1.2
      have hv : e.2 = f.2 := by
        have := h e.1
        simpa [Memory.read, hk] using this
      have hrest : ∀ a, Memory.read rest a = Memory.read more a := by
        intro a
        by_cases ha : a < e.1 + 1
        · rw [Memory.read_of_lt hm.2 ha, Memory.read_of_lt (hk ▸ hn.2) ha]
        · have := h a
          simpa [Memory.read, show a ≠ e.1 by omega, show ¬ a < e.1 by omega, ← hk] using this
      rw [ih hm.2 (hk ▸ hn.2) hrest, Prod.ext hk hv]

/-- Two canonical stores that read alike are one store. -/
theorem Memory.eq_of_read {m n : Memory} (hm : Memory.wf m = true) (hn : Memory.wf n = true)
    (h : ∀ a, Memory.read m a = Memory.read n a) : m = n :=
  Memory.eq_of_readFrom hm hn h

/-! ### The same through State -/

theorem State.storeByte_wf {s : State} (a : Nat) (v : Byte) (h : Memory.wf s.mem = true) :
    Memory.wf (s.storeByte a v).mem = true := by
  simpa using Memory.wf_write a v h

theorem State.storeWord_wf {s : State} (a : Nat) (v : Word) (h : Memory.wf s.mem = true) :
    Memory.wf (s.storeWord a v).mem = true := by
  simpa using Memory.wf_write (a + 1) (hiByte v) (Memory.wf_write a (loByte v) h)

theorem State.storeByte_byteAt {s : State} (a x : Nat) (v : Byte) (h : Memory.wf s.mem = true) :
    (s.storeByte a v).byteAt x = if x = a then v else s.byteAt x := by
  simpa [State.byteAt] using Memory.read_write a x v h

theorem State.storeWord_byteAt {s : State} (a x : Nat) (v : Word) (h : Memory.wf s.mem = true) :
    (s.storeWord a v).byteAt x =
      if x = a then loByte v else if x = a + 1 then hiByte v else s.byteAt x := by
  unfold State.storeWord
  rw [State.storeByte_byteAt _ _ _ (State.storeByte_wf a _ h), State.storeByte_byteAt _ _ _ h]
  by_cases hx : x = a
  · simp [hx]
  · simp [hx]

/-- A word read after a word write at the same address (20_memory.md R58). -/
theorem State.storeWord_wordAt {s : State} (a : Nat) (v : Word) (h : Memory.wf s.mem = true) :
    (s.storeWord a v).wordAt a = v := by
  simp [State.wordAt, State.storeWord_byteAt _ _ _ h]

/-! ### The four accessors (20_memory.md R51 to R55) -/

theorem memRead8_ok {s : State} {a : Nat} {v : Byte} (h : memRead8 s a = .ok v) :
    a < s.params.memSize ∧ v = s.byteAt a := by
  unfold memRead8 at h
  split at h
  · next hb => simp [State.byteInBounds] at hb; cases h; exact ⟨hb, rfl⟩
  · cases h

theorem memRead16_ok {s : State} {a : Nat} {v : Word} (h : memRead16 s a = .ok v) :
    a + 1 < s.params.memSize ∧ v = s.wordAt a := by
  unfold memRead16 at h
  split at h
  · next hb => simp [State.wordInBounds] at hb; cases h; exact ⟨hb.2, rfl⟩
  · cases h

theorem memWrite8_ok {s t : State} {a : Nat} {v : Byte} (h : memWrite8 s a v = .ok t) :
    a < s.params.memSize ∧ t = s.storeByte a v := by
  unfold memWrite8 at h
  split at h
  · next hb => simp [State.byteInBounds] at hb; cases h; exact ⟨hb, rfl⟩
  · cases h

theorem memWrite16_ok {s t : State} {a : Nat} {v : Word} (h : memWrite16 s a v = .ok t) :
    a + 1 < s.params.memSize ∧ t = s.storeWord a v := by
  unfold memWrite16 at h
  split at h
  · next hb => simp [State.wordInBounds] at hb; cases h; exact ⟨hb.2, rfl⟩
  · cases h

theorem memRead8_error {s : State} {a : Nat} {e : Error} (h : memRead8 s a = .error e) : e = .outOfBounds a := by
  unfold memRead8 at h; split at h <;> cases h; rfl

theorem memRead16_error {s : State} {a : Nat} {e : Error} (h : memRead16 s a = .error e) : e = .outOfBounds a := by
  unfold memRead16 at h; split at h <;> cases h; rfl

theorem memWrite8_error {s : State} {a : Nat} {v : Byte} {e : Error} (h : memWrite8 s a v = .error e) :
    e = .outOfBounds a := by
  unfold memWrite8 at h; split at h <;> cases h; rfl

theorem memWrite16_error {s : State} {a : Nat} {v : Word} {e : Error} (h : memWrite16 s a v = .error e) :
    e = .outOfBounds a := by
  unfold memWrite16 at h; split at h <;> cases h; rfl

end Sys2Proof.Machine
end

