-- ==== Sys2Proof/Laws/Operands.lean ====
section
/-! SUPPORT. The operand resolver's locations: what a read or a write of one gives, when it fails, and what it leaves
alone (40_operand_resolver.md R110 to R114). -/

namespace Sys2Proof.Machine

/-! ### Reads and writes by the bounds of the location -/

theorem memRead8_eq (s : State) (a : Nat) :
    memRead8 s a = if s.byteInBounds a then .ok (s.byteAt a) else .error (.outOfBounds a) := rfl

theorem readLoc8_inBounds {s : State} {l : Loc8} (h : l.inBounds s = true) : readLoc8 s l = .ok (l.value s) := by
  cases l with
  | reg r => rfl
  | mem pa => exact if_pos h

theorem readLoc16_inBounds {s : State} {l : Loc16} (h : l.inBounds s = true) : readLoc16 s l = .ok (l.value s) := by
  cases l with
  | reg r => rfl
  | mem pa => exact if_pos h

theorem writeLoc8_inBounds {s : State} {l : Loc8} (v : Byte) (h : l.inBounds s = true) :
    writeLoc8 s l v = .ok (l.put s v) := by
  cases l with
  | reg r => rfl
  | mem pa => exact if_pos h

theorem writeLoc16_inBounds {s : State} {l : Loc16} (v : Word) (h : l.inBounds s = true) :
    writeLoc16 s l v = .ok (l.put s v) := by
  cases l with
  | reg r => rfl
  | mem pa => exact if_pos h

theorem readLoc8_outOfBounds {s : State} {pa : Nat} (h : s.byteInBounds pa = false) :
    readLoc8 s (.mem pa) = .error (.outOfBounds pa) := by
  simp [readLoc8, memRead8, h]

theorem readLoc16_outOfBounds {s : State} {pa : Nat} (h : s.wordInBounds pa = false) :
    readLoc16 s (.mem pa) = .error (.outOfBounds pa) := by
  simp [readLoc16, memRead16, h]

/-- Everything a read of a location can do. -/
theorem readLoc8_cases (s : State) (l : Loc8) :
    (l.inBounds s = true ∧ readLoc8 s l = .ok (l.value s)) ∨
    ∃ pa, l = .mem pa ∧ readLoc8 s l = .error (.outOfBounds pa) := by
  cases l with
  | reg r => exact .inl ⟨rfl, rfl⟩
  | mem pa =>
    cases h : s.byteInBounds pa
    · exact .inr ⟨pa, rfl, readLoc8_outOfBounds h⟩
    · exact .inl ⟨h, readLoc8_inBounds (l := .mem pa) h⟩

theorem readLoc16_cases (s : State) (l : Loc16) :
    (l.inBounds s = true ∧ readLoc16 s l = .ok (l.value s)) ∨
    ∃ pa, l = .mem pa ∧ readLoc16 s l = .error (.outOfBounds pa) := by
  cases l with
  | reg r => exact .inl ⟨rfl, rfl⟩
  | mem pa =>
    cases h : s.wordInBounds pa
    · exact .inr ⟨pa, rfl, readLoc16_outOfBounds h⟩
    · exact .inl ⟨h, readLoc16_inBounds (l := .mem pa) h⟩

/-! ### What `put` leaves alone -/

@[simp] theorem Loc8.put_seg (s : State) (v : Byte) (l : Loc8) : (l.put s v).seg = s.seg := by cases l <;> simp [Loc8.put]
@[simp] theorem Loc8.put_ip (s : State) (v : Byte) (l : Loc8) : (l.put s v).ip = s.ip := by cases l <;> simp [Loc8.put]
@[simp] theorem Loc8.put_flags (s : State) (v : Byte) (l : Loc8) : (l.put s v).flags = s.flags := by
  cases l <;> simp [Loc8.put]
@[simp] theorem Loc8.put_halted (s : State) (v : Byte) (l : Loc8) : (l.put s v).halted = s.halted := by
  cases l <;> simp [Loc8.put]
@[simp] theorem Loc8.put_haltReason (s : State) (v : Byte) (l : Loc8) : (l.put s v).haltReason = s.haltReason := by
  cases l <;> simp [Loc8.put]
@[simp] theorem Loc8.put_error (s : State) (v : Byte) (l : Loc8) : (l.put s v).error = s.error := by
  cases l <;> simp [Loc8.put]
@[simp] theorem Loc8.put_params (s : State) (v : Byte) (l : Loc8) : (l.put s v).params = s.params := by
  cases l <;> simp [Loc8.put]

@[simp] theorem Loc16.put_seg (s : State) (v : Word) (l : Loc16) : (l.put s v).seg = s.seg := by
  cases l <;> simp [Loc16.put]
@[simp] theorem Loc16.put_ip (s : State) (v : Word) (l : Loc16) : (l.put s v).ip = s.ip := by cases l <;> simp [Loc16.put]
@[simp] theorem Loc16.put_flags (s : State) (v : Word) (l : Loc16) : (l.put s v).flags = s.flags := by
  cases l <;> simp [Loc16.put]
@[simp] theorem Loc16.put_halted (s : State) (v : Word) (l : Loc16) : (l.put s v).halted = s.halted := by
  cases l <;> simp [Loc16.put]
@[simp] theorem Loc16.put_haltReason (s : State) (v : Word) (l : Loc16) : (l.put s v).haltReason = s.haltReason := by
  cases l <;> simp [Loc16.put]
@[simp] theorem Loc16.put_error (s : State) (v : Word) (l : Loc16) : (l.put s v).error = s.error := by
  cases l <;> simp [Loc16.put]
@[simp] theorem Loc16.put_params (s : State) (v : Word) (l : Loc16) : (l.put s v).params = s.params := by
  cases l <;> simp [Loc16.put]

theorem Loc8.put_mem_reg (s : State) (v : Byte) (r : Reg8) : (Loc8.put s v (.reg r)).mem = s.mem := by simp [Loc8.put]

theorem Loc16.put_mem_reg (s : State) (v : Word) (r : Reg16) : (Loc16.put s v (.reg r)).mem = s.mem := by
  simp [Loc16.put]

/-- A write of a location in bounds keeps the canonical form and the range of memory. -/
theorem Loc8.put_memory {s : State} (v : Byte) {l : Loc8} (hb : l.inBounds s = true) (hw : Memory.wf s.mem = true)
    (hr : Memory.below s.params.memSize s.mem = true) :
    Memory.wf (l.put s v).mem = true ∧ Memory.below s.params.memSize (l.put s v).mem = true := by
  cases l with
  | reg r => simp [Loc8.put, hw, hr]
  | mem pa =>
    have hb : pa < s.params.memSize := by simpa [Loc8.inBounds, State.byteInBounds] using hb
    exact ⟨Memory.wf_write pa v hw, Memory.below_write v hr hb⟩

theorem State.storeWord_memory {s : State} {a : Nat} (v : Word) (hb : s.wordInBounds a = true)
    (hw : Memory.wf s.mem = true) (hr : Memory.below s.params.memSize s.mem = true) :
    Memory.wf (s.storeWord a v).mem = true ∧ Memory.below s.params.memSize (s.storeWord a v).mem = true := by
  have hb : a < s.params.memSize ∧ a + 1 < s.params.memSize := by simpa [State.wordInBounds] using hb
  exact ⟨State.storeWord_wf a v hw,
    by simpa using Memory.below_write (hiByte v) (Memory.below_write (loByte v) hr hb.1) hb.2⟩

theorem Loc16.put_memory {s : State} (v : Word) {l : Loc16} (hb : l.inBounds s = true) (hw : Memory.wf s.mem = true)
    (hr : Memory.below s.params.memSize s.mem = true) :
    Memory.wf (l.put s v).mem = true ∧ Memory.below s.params.memSize (l.put s v).mem = true := by
  cases l with
  | reg r => simp [Loc16.put, hw, hr]
  | mem pa => exact State.storeWord_memory v hb hw hr

end Sys2Proof.Machine
end

