-- ==== Sys2Proof/Laws/Templates.lean ====
section
/-! SUPPORT. One lemma for each template of a family: everything it can answer. -/

namespace Sys2Proof.Machine

@[simp] theorem settle_ok (s t : State) : settle s (.ok t) = .next t := rfl
@[simp] theorem settle_error (s : State) (e : Error) : settle s (.error e) = .next (s.raiseError e) := rfl

theorem provisional_execute {op : Byte} {f : State → Out} {s : State}
    (h : s.params.provisionalPolicy = .execute) : provisional op f s = f s := by
  simp [provisional, h]

theorem provisional_refuse {op : Byte} {f : State → Out} {s : State}
    (h : s.params.provisionalPolicy = .refuse) : provisional op f s = .refused (.provisionalOpcode op) := by
  simp [provisional, h]

/-- A PROVISIONAL opcode that answers a next state answers what its rule does. -/
theorem provisional_next {op : Byte} {f : State → Out} {s t : State} (h : provisional op f s = .next t) :
    s.params.provisionalPolicy = .execute ∧ f s = .next t := by
  cases hp : s.params.provisionalPolicy with
  | refuse => simp [provisional, hp] at h
  | execute => exact ⟨rfl, by simpa [provisional, hp] using h⟩

/-- The state an ALU instruction of width 8 leaves (43_alu_instructions.md R202). -/
def aluDone8 (k : AluKind) (s : State) (dst : Loc8) (p : Byte × FlagWrite) (len : Nat) : State :=
  ((if k.writes then dst.put s p.1 else s).setFlags (s.flags.update p.2)).advance len

/-- The same at width 16. -/
def aluDone16 (k : AluKind) (s : State) (dst : Loc16) (p : Word × FlagWrite) (len : Nat) : State :=
  ((if k.writes then dst.put s p.1 else s).setFlags (s.flags.update p.2)).advance len

theorem aluCommit8_ok (k : AluKind) (len : Nat) (dst : Loc8) (b : Byte) (s : State) (h : dst.inBounds s = true) :
    aluCommit k len (readLoc8 s dst) (.ok b) (writeLoc8 s dst) s =
      .next (aluDone8 k s dst (k.fn (dst.value s) b s.flags.cf) len) := by
  unfold aluCommit aluDone8
  rw [readLoc8_inBounds h]
  simp only [Except.bind]
  cases k.writes
  · rfl
  · simp [writeLoc8_inBounds _ h, Except.map]

theorem aluCommit16_ok (k : AluKind) (len : Nat) (dst : Loc16) (b : Word) (s : State) (h : dst.inBounds s = true) :
    aluCommit k len (readLoc16 s dst) (.ok b) (writeLoc16 s dst) s =
      .next (aluDone16 k s dst (k.fn (dst.value s) b s.flags.cf) len) := by
  unfold aluCommit aluDone16
  rw [readLoc16_inBounds h]
  simp only [Except.bind]
  cases k.writes
  · rfl
  · simp [writeLoc16_inBounds _ h, Except.map]

/-- Both locations in bounds: the instruction completes. -/
theorem aluLoc8_ok {k : AluKind} {len : Nat} {dst src : Loc8} {s : State} (hd : dst.inBounds s = true)
    (hs : src.inBounds s = true) :
    aluLoc8 k len dst src s = .next (aluDone8 k s dst (k.fn (dst.value s) (src.value s) s.flags.cf) len) := by
  unfold aluLoc8
  rw [readLoc8_inBounds hs, aluCommit8_ok k len dst _ s hd]

theorem aluLoc16_ok {k : AluKind} {len : Nat} {dst src : Loc16} {s : State} (hd : dst.inBounds s = true)
    (hs : src.inBounds s = true) :
    aluLoc16 k len dst src s = .next (aluDone16 k s dst (k.fn (dst.value s) (src.value s) s.flags.cf) len) := by
  unfold aluLoc16
  rw [readLoc16_inBounds hs, aluCommit16_ok k len dst _ s hd]

/-- Everything an ALU instruction of width 8 can answer: it completes, or one of its locations is out of bounds and
the error is all it commits. -/
theorem aluLoc8_cases (k : AluKind) (len : Nat) (dst src : Loc8) (s : State) :
    (dst.inBounds s = true ∧ src.inBounds s = true ∧
      aluLoc8 k len dst src s = .next (aluDone8 k s dst (k.fn (dst.value s) (src.value s) s.flags.cf) len)) ∨
    ∃ pa, aluLoc8 k len dst src s = .next (s.raiseError (.outOfBounds pa)) := by
  rcases readLoc8_cases s dst with ⟨hd, -⟩ | ⟨pa, -, he⟩
  · rcases readLoc8_cases s src with ⟨hs, -⟩ | ⟨pa, -, he⟩
    · exact .inl ⟨hd, hs, aluLoc8_ok hd hs⟩
    · exact .inr ⟨pa, by simp [aluLoc8, aluCommit, readLoc8_inBounds hd, he, Except.bind]⟩
  · exact .inr ⟨pa, by simp [aluLoc8, aluCommit, he, Except.bind]⟩

theorem aluLoc16_cases (k : AluKind) (len : Nat) (dst src : Loc16) (s : State) :
    (dst.inBounds s = true ∧ src.inBounds s = true ∧
      aluLoc16 k len dst src s = .next (aluDone16 k s dst (k.fn (dst.value s) (src.value s) s.flags.cf) len)) ∨
    ∃ pa, aluLoc16 k len dst src s = .next (s.raiseError (.outOfBounds pa)) := by
  rcases readLoc16_cases s dst with ⟨hd, -⟩ | ⟨pa, -, he⟩
  · rcases readLoc16_cases s src with ⟨hs, -⟩ | ⟨pa, -, he⟩
    · exact .inl ⟨hd, hs, aluLoc16_ok hd hs⟩
    · exact .inr ⟨pa, by simp [aluLoc16, aluCommit, readLoc16_inBounds hd, he, Except.bind]⟩
  · exact .inr ⟨pa, by simp [aluLoc16, aluCommit, he, Except.bind]⟩

/-- A destination out of bounds raises its own address (20_memory.md R66: the destination is read first). -/
theorem aluLoc8_dst_outOfBounds {k : AluKind} {len pa : Nat} {src : Loc8} {s : State}
    (h : s.byteInBounds pa = false) : aluLoc8 k len (.mem pa) src s = .next (s.raiseError (.outOfBounds pa)) := by
  simp [aluLoc8, aluCommit, readLoc8_outOfBounds h, Except.bind]

theorem aluLoc16_dst_outOfBounds {k : AluKind} {len pa : Nat} {src : Loc16} {s : State}
    (h : s.wordInBounds pa = false) : aluLoc16 k len (.mem pa) src s = .next (s.raiseError (.outOfBounds pa)) := by
  simp [aluLoc16, aluCommit, readLoc16_outOfBounds h, Except.bind]

/-- A source out of bounds behind a destination in bounds raises the source's address. -/
theorem aluLoc8_src_outOfBounds {k : AluKind} {len pa : Nat} {dst : Loc8} {s : State} (hd : dst.inBounds s = true)
    (h : s.byteInBounds pa = false) : aluLoc8 k len dst (.mem pa) s = .next (s.raiseError (.outOfBounds pa)) := by
  simp [aluLoc8, aluCommit, readLoc8_inBounds hd, readLoc8_outOfBounds h, Except.bind]

theorem aluLoc16_src_outOfBounds {k : AluKind} {len pa : Nat} {dst : Loc16} {s : State} (hd : dst.inBounds s = true)
    (h : s.wordInBounds pa = false) : aluLoc16 k len dst (.mem pa) s = .next (s.raiseError (.outOfBounds pa)) := by
  simp [aluLoc16, aluCommit, readLoc16_inBounds hd, readLoc16_outOfBounds h, Except.bind]

theorem aluAlImm_ok (k : AluKind) (imm : Byte) (s : State) :
    aluAlImm k imm s = .next (aluDone8 k s (.reg .al) (k.fn (s.r8 .al) imm s.flags.cf) 2) :=
  aluCommit8_ok k 2 (.reg .al) imm s rfl

theorem aluAxImm_ok (k : AluKind) (imm : Word) (s : State) :
    aluAxImm k imm s = .next (aluDone16 k s (.reg .ax) (k.fn (s.r16 .ax) imm s.flags.cf) 3) :=
  aluCommit16_ok k 3 (.reg .ax) imm s rfl

/-- The state a push leaves (44_incdec_stack.md R301). -/
def pushDone (r : Reg16) (s : State) : State :=
  ((s.storeWord (stackPA s (pushSp s)) (pushValue r s)).setR16 .sp (pushSp s)).advance 1

/-- The state a pop leaves (44_incdec_stack.md R301). -/
def popDone (r : Reg16) (s : State) : State :=
  ((s.setR16 .sp (s.r16 .sp + 2)).setR16 r (s.wordAt (stackPA s (s.r16 .sp)))).advance 1

/-- Everything a push can answer. -/
theorem pushR_eq (r : Reg16) (s : State) :
    pushR r s = if s.wordInBounds (stackPA s (pushSp s)) then .next (pushDone r s)
      else .next (s.raiseError (.outOfBounds (stackPA s (pushSp s)))) := by
  unfold pushR memWrite16
  split <;> simp_all [Except.map, pushDone]

/-- Everything a pop can answer. -/
theorem popR_eq (r : Reg16) (s : State) :
    popR r s = if s.wordInBounds (stackPA s (s.r16 .sp)) then .next (popDone r s)
      else .next (s.raiseError (.outOfBounds (stackPA s (s.r16 .sp)))) := by
  unfold popR memRead16
  split <;> simp_all [Except.map, popDone]

end Sys2Proof.Machine
end

