-- ==== Sys2Proof/Laws/Exec.lean ====
section
/-! SUPPORT. Everything `exec` can answer with a next state, said once for all instructions (42_engine.md R168, R171,
R182; 43_alu_instructions.md R200 to R202; 44_incdec_stack.md R300, R301). -/

namespace Sys2Proof.Machine

theorem encode_length_rm8 {i : Instr} {rm : Rm8} {r : Reg8} (h : i.operandBytes = rm.encode r) :
    (encode i).length = rmLength8 rm := by
  simp only [encode, h, List.length_cons]
  cases rm with
  | reg q => rfl
  | mem m => cases m <;> rfl

theorem encode_length_rm16 {i : Instr} {rm : Rm16} {r : Reg16} (h : i.operandBytes = rm.encode r) :
    (encode i).length = rmLength16 rm := by
  simp only [encode, h, List.length_cons]
  cases rm with
  | reg q => rfl
  | mem m => cases m <;> rfl

/-- A next state of `exec i s`, by what led to it. -/
inductive Effect (s : State) (i : Instr) : State → Prop where
  | raised (a : Nat) : Effect s i (s.raiseError (.outOfBounds a))
  | unimplemented (h : classOf i.opcode = .unimplemented) : Effect s i (s.halt (.unimplementedOpcode i.opcode))
  | hlt (h : i = .hlt) : Effect s i ((s.halt .hlt).advance 1)
  | alu8 (k : AluKind) (dst : Loc8) (b : Byte) (hc : classOf i.opcode ≠ .unimplemented)
      (hd : dst.inBounds s = true) :
      Effect s i (aluDone8 k s dst (k.fn (dst.value s) b s.flags.cf) (encode i).length)
  | alu16 (k : AluKind) (dst : Loc16) (b : Word) (hc : classOf i.opcode ≠ .unimplemented)
      (hd : dst.inBounds s = true) :
      Effect s i (aluDone16 k s dst (k.fn (dst.value s) b s.flags.cf) (encode i).length)
  | incDec (r : Reg16) (p : Word × FlagWrite) (hc : classOf i.opcode ≠ .unimplemented)
      (hl : (encode i).length = 1) (hp : p = inc16 (s.r16 r) ∨ p = dec16 (s.r16 r)) :
      Effect s i (((s.setR16 r p.1).setFlags (s.flags.update p.2)).advance 1)
  | push (r : Reg16) (hc : classOf i.opcode ≠ .unimplemented) (hl : (encode i).length = 1)
      (hb : s.wordInBounds (stackPA s (pushSp s)) = true) : Effect s i (pushDone r s)
  | pop (r : Reg16) (hc : classOf i.opcode ≠ .unimplemented) (hl : (encode i).length = 1)
      (hb : s.wordInBounds (stackPA s (s.r16 .sp)) = true) : Effect s i (popDone r s)

section
variable {s t : State} {i : Instr} {op : Byte}

theorem Effect.of_provisional {f : State → Out} (h : provisional op f s = .next t)
    (hf : f s = .next t → Effect s i t) : Effect s i t :=
  hf (provisional_next h).2

theorem Effect.of_aluLoc8 {k : AluKind} {dst src : Loc8} (hc : classOf i.opcode ≠ .unimplemented)
    (h : aluLoc8 k (encode i).length dst src s = .next t) : Effect s i t := by
  rcases aluLoc8_cases k (encode i).length dst src s with ⟨hd, -, he⟩ | ⟨pa, he⟩ <;> rw [he] at h <;> cases h
  · exact .alu8 k dst _ hc hd
  · exact .raised pa

theorem Effect.of_aluLoc16 {k : AluKind} {dst src : Loc16} (hc : classOf i.opcode ≠ .unimplemented)
    (h : aluLoc16 k (encode i).length dst src s = .next t) : Effect s i t := by
  rcases aluLoc16_cases k (encode i).length dst src s with ⟨hd, -, he⟩ | ⟨pa, he⟩ <;> rw [he] at h <;> cases h
  · exact .alu16 k dst _ hc hd
  · exact .raised pa

theorem Effect.of_rmR8 {k : AluKind} {rm : Rm8} {r : Reg8} (hb : i.operandBytes = rm.encode r)
    (hc : classOf i.opcode ≠ .unimplemented) (h : aluRmR8 k rm r s = .next t) : Effect s i t := by
  rw [aluRmR8, ← encode_length_rm8 hb] at h
  exact .of_aluLoc8 hc h

theorem Effect.of_rmR16 {k : AluKind} {rm : Rm16} {r : Reg16} (hb : i.operandBytes = rm.encode r)
    (hc : classOf i.opcode ≠ .unimplemented) (h : aluRmR16 k rm r s = .next t) : Effect s i t := by
  rw [aluRmR16, ← encode_length_rm16 hb] at h
  exact .of_aluLoc16 hc h

theorem Effect.of_rRm8 {k : AluKind} {rm : Rm8} {r : Reg8} (hb : i.operandBytes = rm.encode r)
    (hc : classOf i.opcode ≠ .unimplemented) (h : aluRRm8 k r rm s = .next t) : Effect s i t := by
  rw [aluRRm8, ← encode_length_rm8 hb] at h
  exact .of_aluLoc8 hc h

theorem Effect.of_rRm16 {k : AluKind} {rm : Rm16} {r : Reg16} (hb : i.operandBytes = rm.encode r)
    (hc : classOf i.opcode ≠ .unimplemented) (h : aluRRm16 k r rm s = .next t) : Effect s i t := by
  rw [aluRRm16, ← encode_length_rm16 hb] at h
  exact .of_aluLoc16 hc h

theorem Effect.of_alImm {k : AluKind} {imm : Byte} (hb : i.operandBytes = [imm])
    (hc : classOf i.opcode ≠ .unimplemented) (h : aluAlImm k imm s = .next t) : Effect s i t := by
  rw [aluAlImm_ok] at h
  cases h
  have hl : (encode i).length = 2 := by simp [encode, hb]
  exact hl ▸ .alu8 k (.reg .al) imm hc rfl

theorem Effect.of_axImm {k : AluKind} {imm : Word} (hb : i.operandBytes = wordBytes imm)
    (hc : classOf i.opcode ≠ .unimplemented) (h : aluAxImm k imm s = .next t) : Effect s i t := by
  rw [aluAxImm_ok] at h
  cases h
  have hl : (encode i).length = 3 := by simp [encode, hb, wordBytes]
  exact hl ▸ .alu16 k (.reg .ax) imm hc rfl

theorem Effect.of_incR {r : Reg16} (hc : classOf i.opcode ≠ .unimplemented) (hl : (encode i).length = 1)
    (h : incR r s = .next t) : Effect s i t := by
  cases h
  exact .incDec r _ hc hl (.inl rfl)

theorem Effect.of_decR {r : Reg16} (hc : classOf i.opcode ≠ .unimplemented) (hl : (encode i).length = 1)
    (h : decR r s = .next t) : Effect s i t := by
  cases h
  exact .incDec r _ hc hl (.inr rfl)

theorem Effect.of_pushR {r : Reg16} (hc : classOf i.opcode ≠ .unimplemented) (hl : (encode i).length = 1)
    (h : pushR r s = .next t) : Effect s i t := by
  rw [pushR_eq] at h
  split at h <;> cases h
  · exact .push r hc hl ‹_›
  · exact .raised _

theorem Effect.of_popR {r : Reg16} (hc : classOf i.opcode ≠ .unimplemented) (hl : (encode i).length = 1)
    (h : popR r s = .next t) : Effect s i t := by
  rw [popR_eq] at h
  split at h <;> cases h
  · exact .pop r hc hl ‹_›
  · exact .raised _

theorem Effect.of_unimplemented (hc : classOf i.opcode = .unimplemented)
    (h : haltUnimplemented i.opcode s = .next t) : Effect s i t := by
  cases h
  exact .unimplemented hc

end

/-- The inversion of `exec`. -/
theorem exec_effect {i : Instr} {s t : State} (h : exec i s = .next t) : Effect s i t := by
  cases i with
  | addRm8R8 rm r => exact .of_provisional h (.of_rmR8 rfl (show classOf 0x00 ≠ .unimplemented by decide))
  | addRm16R16 rm r => exact .of_provisional h (.of_rmR16 rfl (show classOf 0x01 ≠ .unimplemented by decide))
  | addR8Rm8 r rm => exact .of_provisional h (.of_rRm8 rfl (show classOf 0x02 ≠ .unimplemented by decide))
  | addR16Rm16 r rm => exact .of_provisional h (.of_rRm16 rfl (show classOf 0x03 ≠ .unimplemented by decide))
  | addAlImm8 imm => exact .of_provisional h (.of_alImm rfl (show classOf 0x04 ≠ .unimplemented by decide))
  | addAxImm16 imm => exact .of_provisional h (.of_axImm rfl (show classOf 0x05 ≠ .unimplemented by decide))
  | unsettled06 => cases h
  | unsettled07 => cases h
  | orRm8R8 rm r => exact .of_provisional h (.of_rmR8 rfl (show classOf 0x08 ≠ .unimplemented by decide))
  | orRm16R16 rm r => exact .of_provisional h (.of_rmR16 rfl (show classOf 0x09 ≠ .unimplemented by decide))
  | orR8Rm8 r rm => exact .of_provisional h (.of_rRm8 rfl (show classOf 0x0A ≠ .unimplemented by decide))
  | orR16Rm16 r rm => exact .of_provisional h (.of_rRm16 rfl (show classOf 0x0B ≠ .unimplemented by decide))
  | orAlImm8 imm => exact .of_provisional h (.of_alImm rfl (show classOf 0x0C ≠ .unimplemented by decide))
  | orAxImm16 imm => exact .of_provisional h (.of_axImm rfl (show classOf 0x0D ≠ .unimplemented by decide))
  | unsettled0E => cases h
  | unsettled0F => cases h
  | adcRm8R8 rm r => exact .of_provisional h (.of_rmR8 rfl (show classOf 0x10 ≠ .unimplemented by decide))
  | adcRm16R16 rm r => exact .of_provisional h (.of_rmR16 rfl (show classOf 0x11 ≠ .unimplemented by decide))
  | adcR8Rm8 r rm => exact .of_provisional h (.of_rRm8 rfl (show classOf 0x12 ≠ .unimplemented by decide))
  | adcR16Rm16 r rm => exact .of_provisional h (.of_rRm16 rfl (show classOf 0x13 ≠ .unimplemented by decide))
  | adcAlImm8 imm => exact .of_provisional h (.of_alImm rfl (show classOf 0x14 ≠ .unimplemented by decide))
  | adcAxImm16 imm => exact .of_provisional h (.of_axImm rfl (show classOf 0x15 ≠ .unimplemented by decide))
  | unsettled16 => cases h
  | unsettled17 => cases h
  | sbbRm8R8 rm r => exact .of_provisional h (.of_rmR8 rfl (show classOf 0x18 ≠ .unimplemented by decide))
  | sbbRm16R16 rm r => exact .of_provisional h (.of_rmR16 rfl (show classOf 0x19 ≠ .unimplemented by decide))
  | sbbR8Rm8 r rm => exact .of_provisional h (.of_rRm8 rfl (show classOf 0x1A ≠ .unimplemented by decide))
  | sbbR16Rm16 r rm => exact .of_provisional h (.of_rRm16 rfl (show classOf 0x1B ≠ .unimplemented by decide))
  | sbbAlImm8 imm => exact .of_provisional h (.of_alImm rfl (show classOf 0x1C ≠ .unimplemented by decide))
  | sbbAxImm16 imm => exact .of_provisional h (.of_axImm rfl (show classOf 0x1D ≠ .unimplemented by decide))
  | unsettled1E => cases h
  | unsettled1F => cases h
  | andRm8R8 rm r => exact .of_provisional h (.of_rmR8 rfl (show classOf 0x20 ≠ .unimplemented by decide))
  | andRm16R16 rm r => exact .of_rmR16 rfl (show classOf 0x21 ≠ .unimplemented by decide) h
  | andR8Rm8 r rm => exact .of_provisional h (.of_rRm8 rfl (show classOf 0x22 ≠ .unimplemented by decide))
  | andR16Rm16 r rm => exact .of_provisional h (.of_rRm16 rfl (show classOf 0x23 ≠ .unimplemented by decide))
  | andAlImm8 imm => exact .of_provisional h (.of_alImm rfl (show classOf 0x24 ≠ .unimplemented by decide))
  | andAxImm16 imm => exact .of_provisional h (.of_axImm rfl (show classOf 0x25 ≠ .unimplemented by decide))
  | unimplemented26 => exact .of_unimplemented (show classOf 0x26 = .unimplemented by decide) h
  | daa => exact .of_unimplemented (show classOf 0x27 = .unimplemented by decide) h
  | subRm8R8 rm r => exact .of_provisional h (.of_rmR8 rfl (show classOf 0x28 ≠ .unimplemented by decide))
  | subRm16R16 rm r => exact .of_provisional h (.of_rmR16 rfl (show classOf 0x29 ≠ .unimplemented by decide))
  | subR8Rm8 r rm => exact .of_provisional h (.of_rRm8 rfl (show classOf 0x2A ≠ .unimplemented by decide))
  | subR16Rm16 r rm => exact .of_provisional h (.of_rRm16 rfl (show classOf 0x2B ≠ .unimplemented by decide))
  | subAlImm8 imm => exact .of_provisional h (.of_alImm rfl (show classOf 0x2C ≠ .unimplemented by decide))
  | subAxImm16 imm => exact .of_provisional h (.of_axImm rfl (show classOf 0x2D ≠ .unimplemented by decide))
  | unimplemented2E => exact .of_unimplemented (show classOf 0x2E = .unimplemented by decide) h
  | unsettled2F => cases h
  | xorRm8R8 rm r => exact .of_provisional h (.of_rmR8 rfl (show classOf 0x30 ≠ .unimplemented by decide))
  | xorRm16R16 rm r => exact .of_rmR16 rfl (show classOf 0x31 ≠ .unimplemented by decide) h
  | xorR8Rm8 r rm => exact .of_provisional h (.of_rRm8 rfl (show classOf 0x32 ≠ .unimplemented by decide))
  | xorR16Rm16 r rm => exact .of_provisional h (.of_rRm16 rfl (show classOf 0x33 ≠ .unimplemented by decide))
  | xorAlImm8 imm => exact .of_provisional h (.of_alImm rfl (show classOf 0x34 ≠ .unimplemented by decide))
  | xorAxImm16 imm => exact .of_provisional h (.of_axImm rfl (show classOf 0x35 ≠ .unimplemented by decide))
  | unimplemented36 => exact .of_unimplemented (show classOf 0x36 = .unimplemented by decide) h
  | unsettled37 => cases h
  | cmpRm8R8 rm r => exact .of_provisional h (.of_rmR8 rfl (show classOf 0x38 ≠ .unimplemented by decide))
  | cmpRm16R16 rm r => exact .of_provisional h (.of_rmR16 rfl (show classOf 0x39 ≠ .unimplemented by decide))
  | cmpR8Rm8 r rm => exact .of_provisional h (.of_rRm8 rfl (show classOf 0x3A ≠ .unimplemented by decide))
  | cmpR16Rm16 r rm => exact .of_provisional h (.of_rRm16 rfl (show classOf 0x3B ≠ .unimplemented by decide))
  | cmpAlImm8 imm => exact .of_provisional h (.of_alImm rfl (show classOf 0x3C ≠ .unimplemented by decide))
  | cmpAxImm16 imm => exact .of_provisional h (.of_axImm rfl (show classOf 0x3D ≠ .unimplemented by decide))
  | unimplemented3E => exact .of_unimplemented (show classOf 0x3E = .unimplemented by decide) h
  | unsettled3F => cases h
  | incAx => exact .of_provisional h (.of_incR (show classOf 0x40 ≠ .unimplemented by decide) rfl)
  | incCx => exact .of_provisional h (.of_incR (show classOf 0x41 ≠ .unimplemented by decide) rfl)
  | incDx => exact .of_provisional h (.of_incR (show classOf 0x42 ≠ .unimplemented by decide) rfl)
  | incBx => exact .of_provisional h (.of_incR (show classOf 0x43 ≠ .unimplemented by decide) rfl)
  | incSp => exact .of_provisional h (.of_incR (show classOf 0x44 ≠ .unimplemented by decide) rfl)
  | incBp => exact .of_provisional h (.of_incR (show classOf 0x45 ≠ .unimplemented by decide) rfl)
  | incSi => exact .of_provisional h (.of_incR (show classOf 0x46 ≠ .unimplemented by decide) rfl)
  | incDi => exact .of_provisional h (.of_incR (show classOf 0x47 ≠ .unimplemented by decide) rfl)
  | decAx => exact .of_provisional h (.of_decR (show classOf 0x48 ≠ .unimplemented by decide) rfl)
  | decCx => exact .of_provisional h (.of_decR (show classOf 0x49 ≠ .unimplemented by decide) rfl)
  | decDx => exact .of_provisional h (.of_decR (show classOf 0x4A ≠ .unimplemented by decide) rfl)
  | decBx => exact .of_provisional h (.of_decR (show classOf 0x4B ≠ .unimplemented by decide) rfl)
  | decSp => exact .of_provisional h (.of_decR (show classOf 0x4C ≠ .unimplemented by decide) rfl)
  | decBp => exact .of_provisional h (.of_decR (show classOf 0x4D ≠ .unimplemented by decide) rfl)
  | decSi => exact .of_provisional h (.of_decR (show classOf 0x4E ≠ .unimplemented by decide) rfl)
  | decDi => exact .of_provisional h (.of_decR (show classOf 0x4F ≠ .unimplemented by decide) rfl)
  | pushAx => exact .of_provisional h (.of_pushR (show classOf 0x50 ≠ .unimplemented by decide) rfl)
  | pushCx => exact .of_provisional h (.of_pushR (show classOf 0x51 ≠ .unimplemented by decide) rfl)
  | pushDx => exact .of_provisional h (.of_pushR (show classOf 0x52 ≠ .unimplemented by decide) rfl)
  | pushBx => exact .of_provisional h (.of_pushR (show classOf 0x53 ≠ .unimplemented by decide) rfl)
  | pushSp => exact .of_provisional h (.of_pushR (show classOf 0x54 ≠ .unimplemented by decide) rfl)
  | pushBp => exact .of_provisional h (.of_pushR (show classOf 0x55 ≠ .unimplemented by decide) rfl)
  | pushSi => exact .of_provisional h (.of_pushR (show classOf 0x56 ≠ .unimplemented by decide) rfl)
  | pushDi => exact .of_provisional h (.of_pushR (show classOf 0x57 ≠ .unimplemented by decide) rfl)
  | popAx => exact .of_provisional h (.of_popR (show classOf 0x58 ≠ .unimplemented by decide) rfl)
  | popCx => exact .of_provisional h (.of_popR (show classOf 0x59 ≠ .unimplemented by decide) rfl)
  | popDx => exact .of_provisional h (.of_popR (show classOf 0x5A ≠ .unimplemented by decide) rfl)
  | popBx => exact .of_provisional h (.of_popR (show classOf 0x5B ≠ .unimplemented by decide) rfl)
  | popSp => exact .of_provisional h (.of_popR (show classOf 0x5C ≠ .unimplemented by decide) rfl)
  | popBp => exact .of_provisional h (.of_popR (show classOf 0x5D ≠ .unimplemented by decide) rfl)
  | popSi => exact .of_provisional h (.of_popR (show classOf 0x5E ≠ .unimplemented by decide) rfl)
  | popDi => exact .of_provisional h (.of_popR (show classOf 0x5F ≠ .unimplemented by decide) rfl)
  | unimplemented60 => exact .of_unimplemented (show classOf 0x60 = .unimplemented by decide) h
  | unimplemented61 => exact .of_unimplemented (show classOf 0x61 = .unimplemented by decide) h
  | unimplemented62 => exact .of_unimplemented (show classOf 0x62 = .unimplemented by decide) h
  | unimplemented63 => exact .of_unimplemented (show classOf 0x63 = .unimplemented by decide) h
  | unimplemented64 => exact .of_unimplemented (show classOf 0x64 = .unimplemented by decide) h
  | unimplemented65 => exact .of_unimplemented (show classOf 0x65 = .unimplemented by decide) h
  | unimplemented66 => exact .of_unimplemented (show classOf 0x66 = .unimplemented by decide) h
  | unimplemented67 => exact .of_unimplemented (show classOf 0x67 = .unimplemented by decide) h
  | unimplemented68 => exact .of_unimplemented (show classOf 0x68 = .unimplemented by decide) h
  | unimplemented69 => exact .of_unimplemented (show classOf 0x69 = .unimplemented by decide) h
  | unimplemented6A => exact .of_unimplemented (show classOf 0x6A = .unimplemented by decide) h
  | unimplemented6B => exact .of_unimplemented (show classOf 0x6B = .unimplemented by decide) h
  | unimplemented6C => exact .of_unimplemented (show classOf 0x6C = .unimplemented by decide) h
  | unimplemented6D => exact .of_unimplemented (show classOf 0x6D = .unimplemented by decide) h
  | unimplemented6E => exact .of_unimplemented (show classOf 0x6E = .unimplemented by decide) h
  | unimplemented6F => exact .of_unimplemented (show classOf 0x6F = .unimplemented by decide) h
  | unimplemented70 => exact .of_unimplemented (show classOf 0x70 = .unimplemented by decide) h
  | unimplemented71 => exact .of_unimplemented (show classOf 0x71 = .unimplemented by decide) h
  | unimplemented72 => exact .of_unimplemented (show classOf 0x72 = .unimplemented by decide) h
  | unimplemented73 => exact .of_unimplemented (show classOf 0x73 = .unimplemented by decide) h
  | unimplemented74 => exact .of_unimplemented (show classOf 0x74 = .unimplemented by decide) h
  | unimplemented75 => exact .of_unimplemented (show classOf 0x75 = .unimplemented by decide) h
  | unimplemented76 => exact .of_unimplemented (show classOf 0x76 = .unimplemented by decide) h
  | unimplemented77 => exact .of_unimplemented (show classOf 0x77 = .unimplemented by decide) h
  | unimplemented78 => exact .of_unimplemented (show classOf 0x78 = .unimplemented by decide) h
  | unimplemented79 => exact .of_unimplemented (show classOf 0x79 = .unimplemented by decide) h
  | unimplemented7A => exact .of_unimplemented (show classOf 0x7A = .unimplemented by decide) h
  | unimplemented7B => exact .of_unimplemented (show classOf 0x7B = .unimplemented by decide) h
  | unimplemented7C => exact .of_unimplemented (show classOf 0x7C = .unimplemented by decide) h
  | unimplemented7D => exact .of_unimplemented (show classOf 0x7D = .unimplemented by decide) h
  | unimplemented7E => exact .of_unimplemented (show classOf 0x7E = .unimplemented by decide) h
  | unimplemented7F => exact .of_unimplemented (show classOf 0x7F = .unimplemented by decide) h
  | unsettled80 => cases h
  | unsettled81 => cases h
  | unsettled82 => cases h
  | unsettled83 => cases h
  | unsettled84 => cases h
  | unsettled85 => cases h
  | unimplemented86 => exact .of_unimplemented (show classOf 0x86 = .unimplemented by decide) h
  | unimplemented87 => exact .of_unimplemented (show classOf 0x87 = .unimplemented by decide) h
  | unimplemented88 => exact .of_unimplemented (show classOf 0x88 = .unimplemented by decide) h
  | unimplemented89 => exact .of_unimplemented (show classOf 0x89 = .unimplemented by decide) h
  | unimplemented8A => exact .of_unimplemented (show classOf 0x8A = .unimplemented by decide) h
  | unimplemented8B => exact .of_unimplemented (show classOf 0x8B = .unimplemented by decide) h
  | unimplemented8C => exact .of_unimplemented (show classOf 0x8C = .unimplemented by decide) h
  | unimplemented8D => exact .of_unimplemented (show classOf 0x8D = .unimplemented by decide) h
  | unimplemented8E => exact .of_unimplemented (show classOf 0x8E = .unimplemented by decide) h
  | unsettled8F => cases h
  | unimplemented90 => exact .of_unimplemented (show classOf 0x90 = .unimplemented by decide) h
  | unimplemented91 => exact .of_unimplemented (show classOf 0x91 = .unimplemented by decide) h
  | unimplemented92 => exact .of_unimplemented (show classOf 0x92 = .unimplemented by decide) h
  | unimplemented93 => exact .of_unimplemented (show classOf 0x93 = .unimplemented by decide) h
  | unimplemented94 => exact .of_unimplemented (show classOf 0x94 = .unimplemented by decide) h
  | unimplemented95 => exact .of_unimplemented (show classOf 0x95 = .unimplemented by decide) h
  | unimplemented96 => exact .of_unimplemented (show classOf 0x96 = .unimplemented by decide) h
  | unimplemented97 => exact .of_unimplemented (show classOf 0x97 = .unimplemented by decide) h
  | unimplemented98 => exact .of_unimplemented (show classOf 0x98 = .unimplemented by decide) h
  | unimplemented99 => exact .of_unimplemented (show classOf 0x99 = .unimplemented by decide) h
  | unimplemented9A => exact .of_unimplemented (show classOf 0x9A = .unimplemented by decide) h
  | unimplemented9B => exact .of_unimplemented (show classOf 0x9B = .unimplemented by decide) h
  | unsettled9C => cases h
  | unsettled9D => cases h
  | unimplemented9E => exact .of_unimplemented (show classOf 0x9E = .unimplemented by decide) h
  | unimplemented9F => exact .of_unimplemented (show classOf 0x9F = .unimplemented by decide) h
  | unimplementedA0 => exact .of_unimplemented (show classOf 0xA0 = .unimplemented by decide) h
  | unimplementedA1 => exact .of_unimplemented (show classOf 0xA1 = .unimplemented by decide) h
  | unimplementedA2 => exact .of_unimplemented (show classOf 0xA2 = .unimplemented by decide) h
  | unimplementedA3 => exact .of_unimplemented (show classOf 0xA3 = .unimplemented by decide) h
  | unimplementedA4 => exact .of_unimplemented (show classOf 0xA4 = .unimplemented by decide) h
  | unimplementedA5 => exact .of_unimplemented (show classOf 0xA5 = .unimplemented by decide) h
  | unimplementedA6 => exact .of_unimplemented (show classOf 0xA6 = .unimplemented by decide) h
  | unimplementedA7 => exact .of_unimplemented (show classOf 0xA7 = .unimplemented by decide) h
  | unsettledA8 => cases h
  | unsettledA9 => cases h
  | unimplementedAA => exact .of_unimplemented (show classOf 0xAA = .unimplemented by decide) h
  | unimplementedAB => exact .of_unimplemented (show classOf 0xAB = .unimplemented by decide) h
  | unimplementedAC => exact .of_unimplemented (show classOf 0xAC = .unimplemented by decide) h
  | unimplementedAD => exact .of_unimplemented (show classOf 0xAD = .unimplemented by decide) h
  | unimplementedAE => exact .of_unimplemented (show classOf 0xAE = .unimplemented by decide) h
  | unimplementedAF => exact .of_unimplemented (show classOf 0xAF = .unimplemented by decide) h
  | unimplementedB0 => exact .of_unimplemented (show classOf 0xB0 = .unimplemented by decide) h
  | unimplementedB1 => exact .of_unimplemented (show classOf 0xB1 = .unimplemented by decide) h
  | unimplementedB2 => exact .of_unimplemented (show classOf 0xB2 = .unimplemented by decide) h
  | unimplementedB3 => exact .of_unimplemented (show classOf 0xB3 = .unimplemented by decide) h
  | unimplementedB4 => exact .of_unimplemented (show classOf 0xB4 = .unimplemented by decide) h
  | unimplementedB5 => exact .of_unimplemented (show classOf 0xB5 = .unimplemented by decide) h
  | unimplementedB6 => exact .of_unimplemented (show classOf 0xB6 = .unimplemented by decide) h
  | unimplementedB7 => exact .of_unimplemented (show classOf 0xB7 = .unimplemented by decide) h
  | unimplementedB8 => exact .of_unimplemented (show classOf 0xB8 = .unimplemented by decide) h
  | unimplementedB9 => exact .of_unimplemented (show classOf 0xB9 = .unimplemented by decide) h
  | unimplementedBA => exact .of_unimplemented (show classOf 0xBA = .unimplemented by decide) h
  | unimplementedBB => exact .of_unimplemented (show classOf 0xBB = .unimplemented by decide) h
  | unimplementedBC => exact .of_unimplemented (show classOf 0xBC = .unimplemented by decide) h
  | unimplementedBD => exact .of_unimplemented (show classOf 0xBD = .unimplemented by decide) h
  | unimplementedBE => exact .of_unimplemented (show classOf 0xBE = .unimplemented by decide) h
  | unimplementedBF => exact .of_unimplemented (show classOf 0xBF = .unimplemented by decide) h
  | unimplementedC0 => exact .of_unimplemented (show classOf 0xC0 = .unimplemented by decide) h
  | unimplementedC1 => exact .of_unimplemented (show classOf 0xC1 = .unimplemented by decide) h
  | unimplementedC2 => exact .of_unimplemented (show classOf 0xC2 = .unimplemented by decide) h
  | unimplementedC3 => exact .of_unimplemented (show classOf 0xC3 = .unimplemented by decide) h
  | unimplementedC4 => exact .of_unimplemented (show classOf 0xC4 = .unimplemented by decide) h
  | unimplementedC5 => exact .of_unimplemented (show classOf 0xC5 = .unimplemented by decide) h
  | unimplementedC6 => exact .of_unimplemented (show classOf 0xC6 = .unimplemented by decide) h
  | unimplementedC7 => exact .of_unimplemented (show classOf 0xC7 = .unimplemented by decide) h
  | unimplementedC8 => exact .of_unimplemented (show classOf 0xC8 = .unimplemented by decide) h
  | unimplementedC9 => exact .of_unimplemented (show classOf 0xC9 = .unimplemented by decide) h
  | unimplementedCA => exact .of_unimplemented (show classOf 0xCA = .unimplemented by decide) h
  | unimplementedCB => exact .of_unimplemented (show classOf 0xCB = .unimplemented by decide) h
  | unimplementedCC => exact .of_unimplemented (show classOf 0xCC = .unimplemented by decide) h
  | unimplementedCD => exact .of_unimplemented (show classOf 0xCD = .unimplemented by decide) h
  | unimplementedCE => exact .of_unimplemented (show classOf 0xCE = .unimplemented by decide) h
  | unimplementedCF => exact .of_unimplemented (show classOf 0xCF = .unimplemented by decide) h
  | unsettledD0 => cases h
  | unsettledD1 => cases h
  | unsettledD2 => cases h
  | unsettledD3 => cases h
  | unsettledD4 => cases h
  | unsettledD5 => cases h
  | unimplementedD6 => exact .of_unimplemented (show classOf 0xD6 = .unimplemented by decide) h
  | unimplementedD7 => exact .of_unimplemented (show classOf 0xD7 = .unimplemented by decide) h
  | unimplementedD8 => exact .of_unimplemented (show classOf 0xD8 = .unimplemented by decide) h
  | unimplementedD9 => exact .of_unimplemented (show classOf 0xD9 = .unimplemented by decide) h
  | unimplementedDA => exact .of_unimplemented (show classOf 0xDA = .unimplemented by decide) h
  | unimplementedDB => exact .of_unimplemented (show classOf 0xDB = .unimplemented by decide) h
  | unimplementedDC => exact .of_unimplemented (show classOf 0xDC = .unimplemented by decide) h
  | unimplementedDD => exact .of_unimplemented (show classOf 0xDD = .unimplemented by decide) h
  | unimplementedDE => exact .of_unimplemented (show classOf 0xDE = .unimplemented by decide) h
  | unimplementedDF => exact .of_unimplemented (show classOf 0xDF = .unimplemented by decide) h
  | unimplementedE0 => exact .of_unimplemented (show classOf 0xE0 = .unimplemented by decide) h
  | unimplementedE1 => exact .of_unimplemented (show classOf 0xE1 = .unimplemented by decide) h
  | unimplementedE2 => exact .of_unimplemented (show classOf 0xE2 = .unimplemented by decide) h
  | unimplementedE3 => exact .of_unimplemented (show classOf 0xE3 = .unimplemented by decide) h
  | unimplementedE4 => exact .of_unimplemented (show classOf 0xE4 = .unimplemented by decide) h
  | unimplementedE5 => exact .of_unimplemented (show classOf 0xE5 = .unimplemented by decide) h
  | unimplementedE6 => exact .of_unimplemented (show classOf 0xE6 = .unimplemented by decide) h
  | unimplementedE7 => exact .of_unimplemented (show classOf 0xE7 = .unimplemented by decide) h
  | unimplementedE8 => exact .of_unimplemented (show classOf 0xE8 = .unimplemented by decide) h
  | unimplementedE9 => exact .of_unimplemented (show classOf 0xE9 = .unimplemented by decide) h
  | unimplementedEA => exact .of_unimplemented (show classOf 0xEA = .unimplemented by decide) h
  | unimplementedEB => exact .of_unimplemented (show classOf 0xEB = .unimplemented by decide) h
  | unimplementedEC => exact .of_unimplemented (show classOf 0xEC = .unimplemented by decide) h
  | unimplementedED => exact .of_unimplemented (show classOf 0xED = .unimplemented by decide) h
  | unimplementedEE => exact .of_unimplemented (show classOf 0xEE = .unimplemented by decide) h
  | unimplementedEF => exact .of_unimplemented (show classOf 0xEF = .unimplemented by decide) h
  | unimplementedF0 => exact .of_unimplemented (show classOf 0xF0 = .unimplemented by decide) h
  | unimplementedF1 => exact .of_unimplemented (show classOf 0xF1 = .unimplemented by decide) h
  | unimplementedF2 => exact .of_unimplemented (show classOf 0xF2 = .unimplemented by decide) h
  | unimplementedF3 => exact .of_unimplemented (show classOf 0xF3 = .unimplemented by decide) h
  | hlt => cases h; exact .hlt rfl
  | unimplementedF5 => exact .of_unimplemented (show classOf 0xF5 = .unimplemented by decide) h
  | unsettledF6 => cases h
  | unsettledF7 => cases h
  | unimplementedF8 => exact .of_unimplemented (show classOf 0xF8 = .unimplemented by decide) h
  | unimplementedF9 => exact .of_unimplemented (show classOf 0xF9 = .unimplemented by decide) h
  | unimplementedFA => exact .of_unimplemented (show classOf 0xFA = .unimplemented by decide) h
  | unimplementedFB => exact .of_unimplemented (show classOf 0xFB = .unimplemented by decide) h
  | unimplementedFC => exact .of_unimplemented (show classOf 0xFC = .unimplemented by decide) h
  | unimplementedFD => exact .of_unimplemented (show classOf 0xFD = .unimplemented by decide) h
  | unsettledFE => cases h
  | unsettledFF => cases h

/-- What a meaning answers apart from a refusal of its opcode's class: a next state. -/
def Answers (out : Out) : Prop := ∃ t, out = .next t

theorem answers_aluLoc8 (k : AluKind) (len : Nat) (dst src : Loc8) (s : State) : Answers (aluLoc8 k len dst src s) := by
  rcases aluLoc8_cases k len dst src s with ⟨-, -, h⟩ | ⟨_, h⟩ <;> exact ⟨_, h⟩

theorem answers_aluLoc16 (k : AluKind) (len : Nat) (dst src : Loc16) (s : State) :
    Answers (aluLoc16 k len dst src s) := by
  rcases aluLoc16_cases k len dst src s with ⟨-, -, h⟩ | ⟨_, h⟩ <;> exact ⟨_, h⟩

theorem answers_pushR (r : Reg16) (s : State) : Answers (pushR r s) := by
  rw [pushR_eq]; split <;> exact ⟨_, rfl⟩

theorem answers_popR (r : Reg16) (s : State) : Answers (popR r s) := by
  rw [popR_eq]; split <;> exact ⟨_, rfl⟩

/-- Everything `exec` can answer: a next state, or the refusal of the opcode's class; never a fault. -/
def ClassDecides (i : Instr) (s : State) : Prop :=
  Answers (exec i s) ∨ (classOf i.opcode = .unsettled ∧ exec i s = .refused (.unsettledOpcode i.opcode)) ∨
    (classOf i.opcode = .provisional ∧ s.params.provisionalPolicy = .refuse ∧
      exec i s = .refused (.provisionalOpcode i.opcode))

theorem ClassDecides.of_provisional {i : Instr} {s : State} {f : State → Out}
    (he : exec i s = provisional i.opcode f s) (hc : classOf i.opcode = .provisional) (hf : Answers (f s)) :
    ClassDecides i s := by
  cases hp : s.params.provisionalPolicy with
  | refuse => exact .inr (.inr ⟨hc, hp, by rw [he, provisional_refuse hp]⟩)
  | execute => exact .inl (by rw [he, provisional_execute hp]; exact hf)

theorem exec_classDecides (i : Instr) (s : State) : ClassDecides i s := by
  cases i with
  | addRm8R8 rm r => exact .of_provisional rfl (show classOf 0x00 = .provisional by decide) (answers_aluLoc8 _ _ _ _ s)
  | addRm16R16 rm r => exact .of_provisional rfl (show classOf 0x01 = .provisional by decide) (answers_aluLoc16 _ _ _ _ s)
  | addR8Rm8 r rm => exact .of_provisional rfl (show classOf 0x02 = .provisional by decide) (answers_aluLoc8 _ _ _ _ s)
  | addR16Rm16 r rm => exact .of_provisional rfl (show classOf 0x03 = .provisional by decide) (answers_aluLoc16 _ _ _ _ s)
  | addAlImm8 imm => exact .of_provisional rfl (show classOf 0x04 = .provisional by decide) ⟨_, aluAlImm_ok _ _ s⟩
  | addAxImm16 imm => exact .of_provisional rfl (show classOf 0x05 = .provisional by decide) ⟨_, aluAxImm_ok _ _ s⟩
  | unsettled06 => exact .inr (.inl ⟨by decide, rfl⟩)
  | unsettled07 => exact .inr (.inl ⟨by decide, rfl⟩)
  | orRm8R8 rm r => exact .of_provisional rfl (show classOf 0x08 = .provisional by decide) (answers_aluLoc8 _ _ _ _ s)
  | orRm16R16 rm r => exact .of_provisional rfl (show classOf 0x09 = .provisional by decide) (answers_aluLoc16 _ _ _ _ s)
  | orR8Rm8 r rm => exact .of_provisional rfl (show classOf 0x0A = .provisional by decide) (answers_aluLoc8 _ _ _ _ s)
  | orR16Rm16 r rm => exact .of_provisional rfl (show classOf 0x0B = .provisional by decide) (answers_aluLoc16 _ _ _ _ s)
  | orAlImm8 imm => exact .of_provisional rfl (show classOf 0x0C = .provisional by decide) ⟨_, aluAlImm_ok _ _ s⟩
  | orAxImm16 imm => exact .of_provisional rfl (show classOf 0x0D = .provisional by decide) ⟨_, aluAxImm_ok _ _ s⟩
  | unsettled0E => exact .inr (.inl ⟨by decide, rfl⟩)
  | unsettled0F => exact .inr (.inl ⟨by decide, rfl⟩)
  | adcRm8R8 rm r => exact .of_provisional rfl (show classOf 0x10 = .provisional by decide) (answers_aluLoc8 _ _ _ _ s)
  | adcRm16R16 rm r => exact .of_provisional rfl (show classOf 0x11 = .provisional by decide) (answers_aluLoc16 _ _ _ _ s)
  | adcR8Rm8 r rm => exact .of_provisional rfl (show classOf 0x12 = .provisional by decide) (answers_aluLoc8 _ _ _ _ s)
  | adcR16Rm16 r rm => exact .of_provisional rfl (show classOf 0x13 = .provisional by decide) (answers_aluLoc16 _ _ _ _ s)
  | adcAlImm8 imm => exact .of_provisional rfl (show classOf 0x14 = .provisional by decide) ⟨_, aluAlImm_ok _ _ s⟩
  | adcAxImm16 imm => exact .of_provisional rfl (show classOf 0x15 = .provisional by decide) ⟨_, aluAxImm_ok _ _ s⟩
  | unsettled16 => exact .inr (.inl ⟨by decide, rfl⟩)
  | unsettled17 => exact .inr (.inl ⟨by decide, rfl⟩)
  | sbbRm8R8 rm r => exact .of_provisional rfl (show classOf 0x18 = .provisional by decide) (answers_aluLoc8 _ _ _ _ s)
  | sbbRm16R16 rm r => exact .of_provisional rfl (show classOf 0x19 = .provisional by decide) (answers_aluLoc16 _ _ _ _ s)
  | sbbR8Rm8 r rm => exact .of_provisional rfl (show classOf 0x1A = .provisional by decide) (answers_aluLoc8 _ _ _ _ s)
  | sbbR16Rm16 r rm => exact .of_provisional rfl (show classOf 0x1B = .provisional by decide) (answers_aluLoc16 _ _ _ _ s)
  | sbbAlImm8 imm => exact .of_provisional rfl (show classOf 0x1C = .provisional by decide) ⟨_, aluAlImm_ok _ _ s⟩
  | sbbAxImm16 imm => exact .of_provisional rfl (show classOf 0x1D = .provisional by decide) ⟨_, aluAxImm_ok _ _ s⟩
  | unsettled1E => exact .inr (.inl ⟨by decide, rfl⟩)
  | unsettled1F => exact .inr (.inl ⟨by decide, rfl⟩)
  | andRm8R8 rm r => exact .of_provisional rfl (show classOf 0x20 = .provisional by decide) (answers_aluLoc8 _ _ _ _ s)
  | andRm16R16 rm r => exact .inl (answers_aluLoc16 _ _ _ _ s)
  | andR8Rm8 r rm => exact .of_provisional rfl (show classOf 0x22 = .provisional by decide) (answers_aluLoc8 _ _ _ _ s)
  | andR16Rm16 r rm => exact .of_provisional rfl (show classOf 0x23 = .provisional by decide) (answers_aluLoc16 _ _ _ _ s)
  | andAlImm8 imm => exact .of_provisional rfl (show classOf 0x24 = .provisional by decide) ⟨_, aluAlImm_ok _ _ s⟩
  | andAxImm16 imm => exact .of_provisional rfl (show classOf 0x25 = .provisional by decide) ⟨_, aluAxImm_ok _ _ s⟩
  | unimplemented26 => exact .inl ⟨_, rfl⟩
  | daa => exact .inl ⟨_, rfl⟩
  | subRm8R8 rm r => exact .of_provisional rfl (show classOf 0x28 = .provisional by decide) (answers_aluLoc8 _ _ _ _ s)
  | subRm16R16 rm r => exact .of_provisional rfl (show classOf 0x29 = .provisional by decide) (answers_aluLoc16 _ _ _ _ s)
  | subR8Rm8 r rm => exact .of_provisional rfl (show classOf 0x2A = .provisional by decide) (answers_aluLoc8 _ _ _ _ s)
  | subR16Rm16 r rm => exact .of_provisional rfl (show classOf 0x2B = .provisional by decide) (answers_aluLoc16 _ _ _ _ s)
  | subAlImm8 imm => exact .of_provisional rfl (show classOf 0x2C = .provisional by decide) ⟨_, aluAlImm_ok _ _ s⟩
  | subAxImm16 imm => exact .of_provisional rfl (show classOf 0x2D = .provisional by decide) ⟨_, aluAxImm_ok _ _ s⟩
  | unimplemented2E => exact .inl ⟨_, rfl⟩
  | unsettled2F => exact .inr (.inl ⟨by decide, rfl⟩)
  | xorRm8R8 rm r => exact .of_provisional rfl (show classOf 0x30 = .provisional by decide) (answers_aluLoc8 _ _ _ _ s)
  | xorRm16R16 rm r => exact .inl (answers_aluLoc16 _ _ _ _ s)
  | xorR8Rm8 r rm => exact .of_provisional rfl (show classOf 0x32 = .provisional by decide) (answers_aluLoc8 _ _ _ _ s)
  | xorR16Rm16 r rm => exact .of_provisional rfl (show classOf 0x33 = .provisional by decide) (answers_aluLoc16 _ _ _ _ s)
  | xorAlImm8 imm => exact .of_provisional rfl (show classOf 0x34 = .provisional by decide) ⟨_, aluAlImm_ok _ _ s⟩
  | xorAxImm16 imm => exact .of_provisional rfl (show classOf 0x35 = .provisional by decide) ⟨_, aluAxImm_ok _ _ s⟩
  | unimplemented36 => exact .inl ⟨_, rfl⟩
  | unsettled37 => exact .inr (.inl ⟨by decide, rfl⟩)
  | cmpRm8R8 rm r => exact .of_provisional rfl (show classOf 0x38 = .provisional by decide) (answers_aluLoc8 _ _ _ _ s)
  | cmpRm16R16 rm r => exact .of_provisional rfl (show classOf 0x39 = .provisional by decide) (answers_aluLoc16 _ _ _ _ s)
  | cmpR8Rm8 r rm => exact .of_provisional rfl (show classOf 0x3A = .provisional by decide) (answers_aluLoc8 _ _ _ _ s)
  | cmpR16Rm16 r rm => exact .of_provisional rfl (show classOf 0x3B = .provisional by decide) (answers_aluLoc16 _ _ _ _ s)
  | cmpAlImm8 imm => exact .of_provisional rfl (show classOf 0x3C = .provisional by decide) ⟨_, aluAlImm_ok _ _ s⟩
  | cmpAxImm16 imm => exact .of_provisional rfl (show classOf 0x3D = .provisional by decide) ⟨_, aluAxImm_ok _ _ s⟩
  | unimplemented3E => exact .inl ⟨_, rfl⟩
  | unsettled3F => exact .inr (.inl ⟨by decide, rfl⟩)
  | incAx => exact .of_provisional rfl (show classOf 0x40 = .provisional by decide) ⟨_, rfl⟩
  | incCx => exact .of_provisional rfl (show classOf 0x41 = .provisional by decide) ⟨_, rfl⟩
  | incDx => exact .of_provisional rfl (show classOf 0x42 = .provisional by decide) ⟨_, rfl⟩
  | incBx => exact .of_provisional rfl (show classOf 0x43 = .provisional by decide) ⟨_, rfl⟩
  | incSp => exact .of_provisional rfl (show classOf 0x44 = .provisional by decide) ⟨_, rfl⟩
  | incBp => exact .of_provisional rfl (show classOf 0x45 = .provisional by decide) ⟨_, rfl⟩
  | incSi => exact .of_provisional rfl (show classOf 0x46 = .provisional by decide) ⟨_, rfl⟩
  | incDi => exact .of_provisional rfl (show classOf 0x47 = .provisional by decide) ⟨_, rfl⟩
  | decAx => exact .of_provisional rfl (show classOf 0x48 = .provisional by decide) ⟨_, rfl⟩
  | decCx => exact .of_provisional rfl (show classOf 0x49 = .provisional by decide) ⟨_, rfl⟩
  | decDx => exact .of_provisional rfl (show classOf 0x4A = .provisional by decide) ⟨_, rfl⟩
  | decBx => exact .of_provisional rfl (show classOf 0x4B = .provisional by decide) ⟨_, rfl⟩
  | decSp => exact .of_provisional rfl (show classOf 0x4C = .provisional by decide) ⟨_, rfl⟩
  | decBp => exact .of_provisional rfl (show classOf 0x4D = .provisional by decide) ⟨_, rfl⟩
  | decSi => exact .of_provisional rfl (show classOf 0x4E = .provisional by decide) ⟨_, rfl⟩
  | decDi => exact .of_provisional rfl (show classOf 0x4F = .provisional by decide) ⟨_, rfl⟩
  | pushAx => exact .of_provisional rfl (show classOf 0x50 = .provisional by decide) (answers_pushR _ s)
  | pushCx => exact .of_provisional rfl (show classOf 0x51 = .provisional by decide) (answers_pushR _ s)
  | pushDx => exact .of_provisional rfl (show classOf 0x52 = .provisional by decide) (answers_pushR _ s)
  | pushBx => exact .of_provisional rfl (show classOf 0x53 = .provisional by decide) (answers_pushR _ s)
  | pushSp => exact .of_provisional rfl (show classOf 0x54 = .provisional by decide) (answers_pushR _ s)
  | pushBp => exact .of_provisional rfl (show classOf 0x55 = .provisional by decide) (answers_pushR _ s)
  | pushSi => exact .of_provisional rfl (show classOf 0x56 = .provisional by decide) (answers_pushR _ s)
  | pushDi => exact .of_provisional rfl (show classOf 0x57 = .provisional by decide) (answers_pushR _ s)
  | popAx => exact .of_provisional rfl (show classOf 0x58 = .provisional by decide) (answers_popR _ s)
  | popCx => exact .of_provisional rfl (show classOf 0x59 = .provisional by decide) (answers_popR _ s)
  | popDx => exact .of_provisional rfl (show classOf 0x5A = .provisional by decide) (answers_popR _ s)
  | popBx => exact .of_provisional rfl (show classOf 0x5B = .provisional by decide) (answers_popR _ s)
  | popSp => exact .of_provisional rfl (show classOf 0x5C = .provisional by decide) (answers_popR _ s)
  | popBp => exact .of_provisional rfl (show classOf 0x5D = .provisional by decide) (answers_popR _ s)
  | popSi => exact .of_provisional rfl (show classOf 0x5E = .provisional by decide) (answers_popR _ s)
  | popDi => exact .of_provisional rfl (show classOf 0x5F = .provisional by decide) (answers_popR _ s)
  | unimplemented60 => exact .inl ⟨_, rfl⟩
  | unimplemented61 => exact .inl ⟨_, rfl⟩
  | unimplemented62 => exact .inl ⟨_, rfl⟩
  | unimplemented63 => exact .inl ⟨_, rfl⟩
  | unimplemented64 => exact .inl ⟨_, rfl⟩
  | unimplemented65 => exact .inl ⟨_, rfl⟩
  | unimplemented66 => exact .inl ⟨_, rfl⟩
  | unimplemented67 => exact .inl ⟨_, rfl⟩
  | unimplemented68 => exact .inl ⟨_, rfl⟩
  | unimplemented69 => exact .inl ⟨_, rfl⟩
  | unimplemented6A => exact .inl ⟨_, rfl⟩
  | unimplemented6B => exact .inl ⟨_, rfl⟩
  | unimplemented6C => exact .inl ⟨_, rfl⟩
  | unimplemented6D => exact .inl ⟨_, rfl⟩
  | unimplemented6E => exact .inl ⟨_, rfl⟩
  | unimplemented6F => exact .inl ⟨_, rfl⟩
  | unimplemented70 => exact .inl ⟨_, rfl⟩
  | unimplemented71 => exact .inl ⟨_, rfl⟩
  | unimplemented72 => exact .inl ⟨_, rfl⟩
  | unimplemented73 => exact .inl ⟨_, rfl⟩
  | unimplemented74 => exact .inl ⟨_, rfl⟩
  | unimplemented75 => exact .inl ⟨_, rfl⟩
  | unimplemented76 => exact .inl ⟨_, rfl⟩
  | unimplemented77 => exact .inl ⟨_, rfl⟩
  | unimplemented78 => exact .inl ⟨_, rfl⟩
  | unimplemented79 => exact .inl ⟨_, rfl⟩
  | unimplemented7A => exact .inl ⟨_, rfl⟩
  | unimplemented7B => exact .inl ⟨_, rfl⟩
  | unimplemented7C => exact .inl ⟨_, rfl⟩
  | unimplemented7D => exact .inl ⟨_, rfl⟩
  | unimplemented7E => exact .inl ⟨_, rfl⟩
  | unimplemented7F => exact .inl ⟨_, rfl⟩
  | unsettled80 => exact .inr (.inl ⟨by decide, rfl⟩)
  | unsettled81 => exact .inr (.inl ⟨by decide, rfl⟩)
  | unsettled82 => exact .inr (.inl ⟨by decide, rfl⟩)
  | unsettled83 => exact .inr (.inl ⟨by decide, rfl⟩)
  | unsettled84 => exact .inr (.inl ⟨by decide, rfl⟩)
  | unsettled85 => exact .inr (.inl ⟨by decide, rfl⟩)
  | unimplemented86 => exact .inl ⟨_, rfl⟩
  | unimplemented87 => exact .inl ⟨_, rfl⟩
  | unimplemented88 => exact .inl ⟨_, rfl⟩
  | unimplemented89 => exact .inl ⟨_, rfl⟩
  | unimplemented8A => exact .inl ⟨_, rfl⟩
  | unimplemented8B => exact .inl ⟨_, rfl⟩
  | unimplemented8C => exact .inl ⟨_, rfl⟩
  | unimplemented8D => exact .inl ⟨_, rfl⟩
  | unimplemented8E => exact .inl ⟨_, rfl⟩
  | unsettled8F => exact .inr (.inl ⟨by decide, rfl⟩)
  | unimplemented90 => exact .inl ⟨_, rfl⟩
  | unimplemented91 => exact .inl ⟨_, rfl⟩
  | unimplemented92 => exact .inl ⟨_, rfl⟩
  | unimplemented93 => exact .inl ⟨_, rfl⟩
  | unimplemented94 => exact .inl ⟨_, rfl⟩
  | unimplemented95 => exact .inl ⟨_, rfl⟩
  | unimplemented96 => exact .inl ⟨_, rfl⟩
  | unimplemented97 => exact .inl ⟨_, rfl⟩
  | unimplemented98 => exact .inl ⟨_, rfl⟩
  | unimplemented99 => exact .inl ⟨_, rfl⟩
  | unimplemented9A => exact .inl ⟨_, rfl⟩
  | unimplemented9B => exact .inl ⟨_, rfl⟩
  | unsettled9C => exact .inr (.inl ⟨by decide, rfl⟩)
  | unsettled9D => exact .inr (.inl ⟨by decide, rfl⟩)
  | unimplemented9E => exact .inl ⟨_, rfl⟩
  | unimplemented9F => exact .inl ⟨_, rfl⟩
  | unimplementedA0 => exact .inl ⟨_, rfl⟩
  | unimplementedA1 => exact .inl ⟨_, rfl⟩
  | unimplementedA2 => exact .inl ⟨_, rfl⟩
  | unimplementedA3 => exact .inl ⟨_, rfl⟩
  | unimplementedA4 => exact .inl ⟨_, rfl⟩
  | unimplementedA5 => exact .inl ⟨_, rfl⟩
  | unimplementedA6 => exact .inl ⟨_, rfl⟩
  | unimplementedA7 => exact .inl ⟨_, rfl⟩
  | unsettledA8 => exact .inr (.inl ⟨by decide, rfl⟩)
  | unsettledA9 => exact .inr (.inl ⟨by decide, rfl⟩)
  | unimplementedAA => exact .inl ⟨_, rfl⟩
  | unimplementedAB => exact .inl ⟨_, rfl⟩
  | unimplementedAC => exact .inl ⟨_, rfl⟩
  | unimplementedAD => exact .inl ⟨_, rfl⟩
  | unimplementedAE => exact .inl ⟨_, rfl⟩
  | unimplementedAF => exact .inl ⟨_, rfl⟩
  | unimplementedB0 => exact .inl ⟨_, rfl⟩
  | unimplementedB1 => exact .inl ⟨_, rfl⟩
  | unimplementedB2 => exact .inl ⟨_, rfl⟩
  | unimplementedB3 => exact .inl ⟨_, rfl⟩
  | unimplementedB4 => exact .inl ⟨_, rfl⟩
  | unimplementedB5 => exact .inl ⟨_, rfl⟩
  | unimplementedB6 => exact .inl ⟨_, rfl⟩
  | unimplementedB7 => exact .inl ⟨_, rfl⟩
  | unimplementedB8 => exact .inl ⟨_, rfl⟩
  | unimplementedB9 => exact .inl ⟨_, rfl⟩
  | unimplementedBA => exact .inl ⟨_, rfl⟩
  | unimplementedBB => exact .inl ⟨_, rfl⟩
  | unimplementedBC => exact .inl ⟨_, rfl⟩
  | unimplementedBD => exact .inl ⟨_, rfl⟩
  | unimplementedBE => exact .inl ⟨_, rfl⟩
  | unimplementedBF => exact .inl ⟨_, rfl⟩
  | unimplementedC0 => exact .inl ⟨_, rfl⟩
  | unimplementedC1 => exact .inl ⟨_, rfl⟩
  | unimplementedC2 => exact .inl ⟨_, rfl⟩
  | unimplementedC3 => exact .inl ⟨_, rfl⟩
  | unimplementedC4 => exact .inl ⟨_, rfl⟩
  | unimplementedC5 => exact .inl ⟨_, rfl⟩
  | unimplementedC6 => exact .inl ⟨_, rfl⟩
  | unimplementedC7 => exact .inl ⟨_, rfl⟩
  | unimplementedC8 => exact .inl ⟨_, rfl⟩
  | unimplementedC9 => exact .inl ⟨_, rfl⟩
  | unimplementedCA => exact .inl ⟨_, rfl⟩
  | unimplementedCB => exact .inl ⟨_, rfl⟩
  | unimplementedCC => exact .inl ⟨_, rfl⟩
  | unimplementedCD => exact .inl ⟨_, rfl⟩
  | unimplementedCE => exact .inl ⟨_, rfl⟩
  | unimplementedCF => exact .inl ⟨_, rfl⟩
  | unsettledD0 => exact .inr (.inl ⟨by decide, rfl⟩)
  | unsettledD1 => exact .inr (.inl ⟨by decide, rfl⟩)
  | unsettledD2 => exact .inr (.inl ⟨by decide, rfl⟩)
  | unsettledD3 => exact .inr (.inl ⟨by decide, rfl⟩)
  | unsettledD4 => exact .inr (.inl ⟨by decide, rfl⟩)
  | unsettledD5 => exact .inr (.inl ⟨by decide, rfl⟩)
  | unimplementedD6 => exact .inl ⟨_, rfl⟩
  | unimplementedD7 => exact .inl ⟨_, rfl⟩
  | unimplementedD8 => exact .inl ⟨_, rfl⟩
  | unimplementedD9 => exact .inl ⟨_, rfl⟩
  | unimplementedDA => exact .inl ⟨_, rfl⟩
  | unimplementedDB => exact .inl ⟨_, rfl⟩
  | unimplementedDC => exact .inl ⟨_, rfl⟩
  | unimplementedDD => exact .inl ⟨_, rfl⟩
  | unimplementedDE => exact .inl ⟨_, rfl⟩
  | unimplementedDF => exact .inl ⟨_, rfl⟩
  | unimplementedE0 => exact .inl ⟨_, rfl⟩
  | unimplementedE1 => exact .inl ⟨_, rfl⟩
  | unimplementedE2 => exact .inl ⟨_, rfl⟩
  | unimplementedE3 => exact .inl ⟨_, rfl⟩
  | unimplementedE4 => exact .inl ⟨_, rfl⟩
  | unimplementedE5 => exact .inl ⟨_, rfl⟩
  | unimplementedE6 => exact .inl ⟨_, rfl⟩
  | unimplementedE7 => exact .inl ⟨_, rfl⟩
  | unimplementedE8 => exact .inl ⟨_, rfl⟩
  | unimplementedE9 => exact .inl ⟨_, rfl⟩
  | unimplementedEA => exact .inl ⟨_, rfl⟩
  | unimplementedEB => exact .inl ⟨_, rfl⟩
  | unimplementedEC => exact .inl ⟨_, rfl⟩
  | unimplementedED => exact .inl ⟨_, rfl⟩
  | unimplementedEE => exact .inl ⟨_, rfl⟩
  | unimplementedEF => exact .inl ⟨_, rfl⟩
  | unimplementedF0 => exact .inl ⟨_, rfl⟩
  | unimplementedF1 => exact .inl ⟨_, rfl⟩
  | unimplementedF2 => exact .inl ⟨_, rfl⟩
  | unimplementedF3 => exact .inl ⟨_, rfl⟩
  | hlt => exact .inl ⟨_, rfl⟩
  | unimplementedF5 => exact .inl ⟨_, rfl⟩
  | unsettledF6 => exact .inr (.inl ⟨by decide, rfl⟩)
  | unsettledF7 => exact .inr (.inl ⟨by decide, rfl⟩)
  | unimplementedF8 => exact .inl ⟨_, rfl⟩
  | unimplementedF9 => exact .inl ⟨_, rfl⟩
  | unimplementedFA => exact .inl ⟨_, rfl⟩
  | unimplementedFB => exact .inl ⟨_, rfl⟩
  | unimplementedFC => exact .inl ⟨_, rfl⟩
  | unimplementedFD => exact .inl ⟨_, rfl⟩
  | unsettledFE => exact .inr (.inl ⟨by decide, rfl⟩)
  | unsettledFF => exact .inr (.inl ⟨by decide, rfl⟩)

end Sys2Proof.Machine
end

