-- ==== Sys2Proof/Laws/Fetch.lean ====
section
/-! SUPPORT. What the fetch of an instruction and a step can answer (42_engine.md R161 to R173). -/

namespace Sys2Proof.Machine

theorem State.Running.notRunning {s : State} (h : s.Running) : notRunning s = none := by
  simp [Machine.notRunning, h.1, h.2]

theorem notRunning_eq_none {s : State} : notRunning s = none ↔ s.Running := by
  unfold Machine.notRunning State.Running
  cases s.error <;> cases s.halted <;> simp

/-- Everything the fetch of one byte can answer (R163). -/
theorem instrByte_cases (s : State) (n : Nat) :
    (s.ip.toNat + n ≤ 0xFFFF ∧ s.physIp + n < s.params.memSize ∧ instrByte s n = .ok (s.byteAt (s.physIp + n))) ∨
    (s.ip.toNat + n > 0xFFFF ∧ instrByte s n = .error (.refuse (.instructionCrossesSegmentEnd s.ip n))) ∨
    (s.ip.toNat + n ≤ 0xFFFF ∧ s.params.memSize ≤ s.physIp + n ∧
      instrByte s n = .error (.raise (.outOfBounds (s.physIp + n)))) := by
  unfold instrByte
  by_cases h : s.ip.toNat + n > 0xFFFF
  · exact .inr (.inl ⟨h, if_pos h⟩)
  · by_cases hb : s.physIp + n < s.params.memSize
    · exact .inl ⟨by omega, hb, by simp [h, memRead8, State.byteInBounds, hb]⟩
    · exact .inr (.inr ⟨by omega, by omega, by simp [h, memRead8, State.byteInBounds, hb]⟩)

theorem instrByte_ok {s : State} {n : Nat} (hn : s.ip.toNat + n ≤ 0xFFFF) (hb : s.physIp + n < s.params.memSize) :
    instrByte s n = .ok (s.byteAt (s.physIp + n)) := by
  rcases instrByte_cases s n with ⟨_, _, h⟩ | ⟨h, _⟩ | ⟨_, h, _⟩
  · exact h
  · omega
  · omega

/-- The opcode byte is fetched whenever its address exists: IP itself is at most 0xFFFF. -/
theorem instrByte_zero {s : State} (hb : s.physIp < s.params.memSize) : instrByte s 0 = .ok (s.byteAt s.physIp) :=
  instrByte_ok (by have := s.ip.isLt; omega) hb

/-- A byte that cannot be fetched raises OutOfBounds or refuses the step; it never halts the machine. -/
def Stop.OfByte : Stop → Prop
  | .raise e => ∃ a, e = .outOfBounds a
  | .refuse r => ∃ ip0 n, r = .instructionCrossesSegmentEnd ip0 n
  | .halt _ => False

theorem instrByte_error {s : State} {n : Nat} {e : Stop} (h : instrByte s n = .error e) : e.OfByte := by
  rcases instrByte_cases s n with ⟨_, _, h'⟩ | ⟨_, h'⟩ | ⟨_, _, h'⟩ <;> rw [h'] at h <;> cases h
  · exact ⟨_, _, rfl⟩
  · exact ⟨_, rfl⟩

theorem bind_error_cases {ε α β : Type} {x : Except ε α} {f : α → Except ε β} {e : ε}
    (h : x.bind f = .error e) : x = .error e ∨ ∃ a, x = .ok a ∧ f a = .error e := by
  cases x with
  | error e' => cases h; exact .inl rfl
  | ok a => exact .inr ⟨a, rfl, h⟩

theorem bind_ok_cases {ε α β : Type} {x : Except ε α} {f : α → Except ε β} {b : β} (h : x.bind f = .ok b) :
    ∃ a, x = .ok a ∧ f a = .ok b := by
  cases x with
  | error e => cases h
  | ok a => exact ⟨a, rfl, h⟩

section
variable {ε : Type} {ib : Nat → Except ε Byte} {P : ε → Prop}

theorem disp16At_error (hib : ∀ n e, ib n = .error e → P e) {e : ε} (h : disp16At ib = .error e) : P e := by
  rcases bind_error_cases h with h | ⟨lo, -, h⟩
  · exact hib _ _ h
  · rcases bind_error_cases h with h | ⟨hi, -, h⟩
    · exact hib _ _ h
    · cases h

theorem decodeRm_error (hib : ∀ n e, ib n = .error e → P e) {p : Mod00Rm110} {m : Byte} {e : ε}
    (h : decodeRm p ib m = .error e) : P e := by
  unfold decodeRm at h
  split at h
  · split at h
    · rcases bind_error_cases h with h | ⟨d, -, h⟩
      · exact disp16At_error hib h
      · cases h
    · cases h
  · rcases bind_error_cases h with h | ⟨d, -, h⟩
    · exact hib _ _ h
    · cases h
  · rcases bind_error_cases h with h | ⟨d, -, h⟩
    · exact disp16At_error hib h
    · cases h
  · cases h

/-- Decoding fails only where the source of bytes fails. -/
theorem decodeOperands_error (hib : ∀ n e, ib n = .error e → P e) {p : Mod00Rm110} {op : Byte} {e : ε}
    (h : decodeOperands p ib op = .error e) : P e := by
  unfold decodeOperands at h
  split at h
  · cases h
  · rcases bind_error_cases h with h | ⟨m, -, h⟩
    · exact hib _ _ h
    · rcases bind_error_cases h with h | ⟨rm, -, h⟩
      · exact decodeRm_error hib h
      · cases h
  · rcases bind_error_cases h with h | ⟨m, -, h⟩
    · exact hib _ _ h
    · rcases bind_error_cases h with h | ⟨rm, -, h⟩
      · exact decodeRm_error hib h
      · cases h
  · rcases bind_error_cases h with h | ⟨b, -, h⟩
    · exact hib _ _ h
    · cases h
  · rcases bind_error_cases h with h | ⟨lo, -, h⟩
    · exact hib _ _ h
    · rcases bind_error_cases h with h | ⟨hi, -, h⟩
      · exact hib _ _ h
      · cases h
  · cases h
  · cases h

end

theorem Shape.operandCount_le_two (s : Shape) : s.operandCount ≤ 2 := by
  cases s <;> simp [Shape.operandCount]

/-- The fetch once the opcode byte is there: its class first, then the operand bytes (R162). -/
theorem fetchInstr_eq {s : State} (hb : s.physIp < s.params.memSize) :
    fetchInstr s = match classRefusal s (s.byteAt s.physIp) with
      | some r => .error (.refuse r)
      | none => decodeOperands s.params.mod00Rm110 (instrByte s) (s.byteAt s.physIp) := by
  have := Shape.operandCount_le_two (shapeOf (s.byteAt s.physIp))
  simp only [fetchInstr, instrByte_zero hb, Except.bind]
  rw [if_neg (by unfold maxOperandCount; omega)]
  all_goals rfl

theorem fetchInstr_outOfBounds {s : State} (hb : s.params.memSize ≤ s.physIp) :
    fetchInstr s = .error (.raise (.outOfBounds s.physIp)) := by
  rcases instrByte_cases s 0 with ⟨_, h, _⟩ | ⟨h, _⟩ | ⟨_, _, h⟩
  · omega
  · have := s.ip.isLt; omega
  · simp only [fetchInstr, h, Except.bind, Nat.add_zero]

/-- The fetch never halts the machine, and an error it raises is OutOfBounds. -/
theorem fetchInstr_error {s : State} {e : Stop} (h : fetchInstr s = .error e) :
    (∃ a, e = .raise (.outOfBounds a)) ∨ ∃ r, e = .refuse r := by
  by_cases hb : s.physIp < s.params.memSize
  · rw [fetchInstr_eq hb] at h
    split at h
    · cases h; exact .inr ⟨_, rfl⟩
    · have := decodeOperands_error (P := Stop.OfByte) (fun n e h => instrByte_error h) h
      cases e with
      | raise e => obtain ⟨a, rfl⟩ := this; exact .inl ⟨a, rfl⟩
      | refuse r => exact .inr ⟨r, rfl⟩
      | halt r => exact this.elim
  · rw [fetchInstr_outOfBounds (by omega)] at h
    cases h
    exact .inl ⟨_, rfl⟩

theorem step_running {s : State} (h : s.Running) :
    step s = match fetchInstr s with
      | .ok i => exec i s
      | .error stop => stopOutcome s stop := by
  simp only [step, h.notRunning]
  all_goals rfl

/-- Everything a step that answers a next state did: it raised OutOfBounds in the fetch, or ran an instruction. -/
theorem step_next {s t : State} (h : step s = .next t) :
    s.Running ∧ ((∃ a, t = s.raiseError (.outOfBounds a)) ∨ ∃ i, fetchInstr s = .ok i ∧ exec i s = .next t) := by
  have hr : s.Running := by
    rw [← notRunning_eq_none]
    unfold step at h
    split at h
    · cases h
    · assumption
  refine ⟨hr, ?_⟩
  rw [step_running hr] at h
  split at h
  · next i hi => exact .inr ⟨i, hi, h⟩
  · next e he =>
    rcases fetchInstr_error he with ⟨a, rfl⟩ | ⟨r, rfl⟩
    · cases h; exact .inl ⟨a, rfl⟩
    · cases h

end Sys2Proof.Machine
end

