-- ==== Sys2Proof/Laws/PerInstr.lean ====
section
/-! SUPPORT. The family "Encoding" of LAWS.json: for each constructor, that the entry of the opcode table at its
opcode builds it from operands its operand bytes encode, and is well formed exactly when those are (30_encoding.md
R70, R79, R81, R82). -/

namespace Sys2Proof.Laws.Encoding

/-- The instruction is what a table entry builds, with the operand bytes and the well-formedness of its operands. -/
def BuiltBy (i : Instr) : Shape → Prop
  | .plain j => i = j ∧ i.operandBytes = [] ∧ ∀ p, i.wf p = true
  | .mode8 mk => ∃ rm r, i = mk rm r ∧ i.operandBytes = rm.encode r ∧ ∀ p, i.wf p = rm.wf p
  | .mode16 mk => ∃ rm r, i = mk rm r ∧ i.operandBytes = rm.encode r ∧ ∀ p, i.wf p = rm.wf p
  | .imm8 mk => ∃ imm, i = mk imm ∧ i.operandBytes = [imm] ∧ ∀ p, i.wf p = true
  | .imm16 mk => ∃ imm, i = mk imm ∧ i.operandBytes = wordBytes imm ∧ ∀ p, i.wf p = true
  | .absent j => i = j ∧ i.operandBytes = [] ∧ ∀ p, i.wf p = true
  | .unsettled j => i = j ∧ i.operandBytes = [] ∧ ∀ p, i.wf p = true

def Statement (i : Instr) : Prop := BuiltBy i (shapeOf i.opcode)

theorem addRm8R8 (rm : Rm8) (r : Reg8) : Statement (.addRm8R8 rm r) :=
  show BuiltBy _ (shapeOf 0x00) from ⟨rm, r, rfl, rfl, fun _ => rfl⟩
theorem addRm16R16 (rm : Rm16) (r : Reg16) : Statement (.addRm16R16 rm r) :=
  show BuiltBy _ (shapeOf 0x01) from ⟨rm, r, rfl, rfl, fun _ => rfl⟩
theorem addR8Rm8 (r : Reg8) (rm : Rm8) : Statement (.addR8Rm8 r rm) :=
  show BuiltBy _ (shapeOf 0x02) from ⟨rm, r, rfl, rfl, fun _ => rfl⟩
theorem addR16Rm16 (r : Reg16) (rm : Rm16) : Statement (.addR16Rm16 r rm) :=
  show BuiltBy _ (shapeOf 0x03) from ⟨rm, r, rfl, rfl, fun _ => rfl⟩
theorem addAlImm8 (imm : Byte) : Statement (.addAlImm8 imm) :=
  show BuiltBy _ (shapeOf 0x04) from ⟨imm, rfl, rfl, fun _ => rfl⟩
theorem addAxImm16 (imm : Word) : Statement (.addAxImm16 imm) :=
  show BuiltBy _ (shapeOf 0x05) from ⟨imm, rfl, rfl, fun _ => rfl⟩
theorem unsettled06 : Statement .unsettled06 := ⟨rfl, rfl, fun _ => rfl⟩
theorem unsettled07 : Statement .unsettled07 := ⟨rfl, rfl, fun _ => rfl⟩
theorem orRm8R8 (rm : Rm8) (r : Reg8) : Statement (.orRm8R8 rm r) :=
  show BuiltBy _ (shapeOf 0x08) from ⟨rm, r, rfl, rfl, fun _ => rfl⟩
theorem orRm16R16 (rm : Rm16) (r : Reg16) : Statement (.orRm16R16 rm r) :=
  show BuiltBy _ (shapeOf 0x09) from ⟨rm, r, rfl, rfl, fun _ => rfl⟩
theorem orR8Rm8 (r : Reg8) (rm : Rm8) : Statement (.orR8Rm8 r rm) :=
  show BuiltBy _ (shapeOf 0x0A) from ⟨rm, r, rfl, rfl, fun _ => rfl⟩
theorem orR16Rm16 (r : Reg16) (rm : Rm16) : Statement (.orR16Rm16 r rm) :=
  show BuiltBy _ (shapeOf 0x0B) from ⟨rm, r, rfl, rfl, fun _ => rfl⟩
theorem orAlImm8 (imm : Byte) : Statement (.orAlImm8 imm) :=
  show BuiltBy _ (shapeOf 0x0C) from ⟨imm, rfl, rfl, fun _ => rfl⟩
theorem orAxImm16 (imm : Word) : Statement (.orAxImm16 imm) :=
  show BuiltBy _ (shapeOf 0x0D) from ⟨imm, rfl, rfl, fun _ => rfl⟩
theorem unsettled0E : Statement .unsettled0E := ⟨rfl, rfl, fun _ => rfl⟩
theorem unsettled0F : Statement .unsettled0F := ⟨rfl, rfl, fun _ => rfl⟩
theorem adcRm8R8 (rm : Rm8) (r : Reg8) : Statement (.adcRm8R8 rm r) :=
  show BuiltBy _ (shapeOf 0x10) from ⟨rm, r, rfl, rfl, fun _ => rfl⟩
theorem adcRm16R16 (rm : Rm16) (r : Reg16) : Statement (.adcRm16R16 rm r) :=
  show BuiltBy _ (shapeOf 0x11) from ⟨rm, r, rfl, rfl, fun _ => rfl⟩
theorem adcR8Rm8 (r : Reg8) (rm : Rm8) : Statement (.adcR8Rm8 r rm) :=
  show BuiltBy _ (shapeOf 0x12) from ⟨rm, r, rfl, rfl, fun _ => rfl⟩
theorem adcR16Rm16 (r : Reg16) (rm : Rm16) : Statement (.adcR16Rm16 r rm) :=
  show BuiltBy _ (shapeOf 0x13) from ⟨rm, r, rfl, rfl, fun _ => rfl⟩
theorem adcAlImm8 (imm : Byte) : Statement (.adcAlImm8 imm) :=
  show BuiltBy _ (shapeOf 0x14) from ⟨imm, rfl, rfl, fun _ => rfl⟩
theorem adcAxImm16 (imm : Word) : Statement (.adcAxImm16 imm) :=
  show BuiltBy _ (shapeOf 0x15) from ⟨imm, rfl, rfl, fun _ => rfl⟩
theorem unsettled16 : Statement .unsettled16 := ⟨rfl, rfl, fun _ => rfl⟩
theorem unsettled17 : Statement .unsettled17 := ⟨rfl, rfl, fun _ => rfl⟩
theorem sbbRm8R8 (rm : Rm8) (r : Reg8) : Statement (.sbbRm8R8 rm r) :=
  show BuiltBy _ (shapeOf 0x18) from ⟨rm, r, rfl, rfl, fun _ => rfl⟩
theorem sbbRm16R16 (rm : Rm16) (r : Reg16) : Statement (.sbbRm16R16 rm r) :=
  show BuiltBy _ (shapeOf 0x19) from ⟨rm, r, rfl, rfl, fun _ => rfl⟩
theorem sbbR8Rm8 (r : Reg8) (rm : Rm8) : Statement (.sbbR8Rm8 r rm) :=
  show BuiltBy _ (shapeOf 0x1A) from ⟨rm, r, rfl, rfl, fun _ => rfl⟩
theorem sbbR16Rm16 (r : Reg16) (rm : Rm16) : Statement (.sbbR16Rm16 r rm) :=
  show BuiltBy _ (shapeOf 0x1B) from ⟨rm, r, rfl, rfl, fun _ => rfl⟩
theorem sbbAlImm8 (imm : Byte) : Statement (.sbbAlImm8 imm) :=
  show BuiltBy _ (shapeOf 0x1C) from ⟨imm, rfl, rfl, fun _ => rfl⟩
theorem sbbAxImm16 (imm : Word) : Statement (.sbbAxImm16 imm) :=
  show BuiltBy _ (shapeOf 0x1D) from ⟨imm, rfl, rfl, fun _ => rfl⟩
theorem unsettled1E : Statement .unsettled1E := ⟨rfl, rfl, fun _ => rfl⟩
theorem unsettled1F : Statement .unsettled1F := ⟨rfl, rfl, fun _ => rfl⟩
theorem andRm8R8 (rm : Rm8) (r : Reg8) : Statement (.andRm8R8 rm r) :=
  show BuiltBy _ (shapeOf 0x20) from ⟨rm, r, rfl, rfl, fun _ => rfl⟩
theorem andRm16R16 (rm : Rm16) (r : Reg16) : Statement (.andRm16R16 rm r) :=
  show BuiltBy _ (shapeOf 0x21) from ⟨rm, r, rfl, rfl, fun _ => rfl⟩
theorem andR8Rm8 (r : Reg8) (rm : Rm8) : Statement (.andR8Rm8 r rm) :=
  show BuiltBy _ (shapeOf 0x22) from ⟨rm, r, rfl, rfl, fun _ => rfl⟩
theorem andR16Rm16 (r : Reg16) (rm : Rm16) : Statement (.andR16Rm16 r rm) :=
  show BuiltBy _ (shapeOf 0x23) from ⟨rm, r, rfl, rfl, fun _ => rfl⟩
theorem andAlImm8 (imm : Byte) : Statement (.andAlImm8 imm) :=
  show BuiltBy _ (shapeOf 0x24) from ⟨imm, rfl, rfl, fun _ => rfl⟩
theorem andAxImm16 (imm : Word) : Statement (.andAxImm16 imm) :=
  show BuiltBy _ (shapeOf 0x25) from ⟨imm, rfl, rfl, fun _ => rfl⟩
theorem unimplemented26 : Statement .unimplemented26 := ⟨rfl, rfl, fun _ => rfl⟩
theorem daa : Statement .daa := ⟨rfl, rfl, fun _ => rfl⟩
theorem subRm8R8 (rm : Rm8) (r : Reg8) : Statement (.subRm8R8 rm r) :=
  show BuiltBy _ (shapeOf 0x28) from ⟨rm, r, rfl, rfl, fun _ => rfl⟩
theorem subRm16R16 (rm : Rm16) (r : Reg16) : Statement (.subRm16R16 rm r) :=
  show BuiltBy _ (shapeOf 0x29) from ⟨rm, r, rfl, rfl, fun _ => rfl⟩
theorem subR8Rm8 (r : Reg8) (rm : Rm8) : Statement (.subR8Rm8 r rm) :=
  show BuiltBy _ (shapeOf 0x2A) from ⟨rm, r, rfl, rfl, fun _ => rfl⟩
theorem subR16Rm16 (r : Reg16) (rm : Rm16) : Statement (.subR16Rm16 r rm) :=
  show BuiltBy _ (shapeOf 0x2B) from ⟨rm, r, rfl, rfl, fun _ => rfl⟩
theorem subAlImm8 (imm : Byte) : Statement (.subAlImm8 imm) :=
  show BuiltBy _ (shapeOf 0x2C) from ⟨imm, rfl, rfl, fun _ => rfl⟩
theorem subAxImm16 (imm : Word) : Statement (.subAxImm16 imm) :=
  show BuiltBy _ (shapeOf 0x2D) from ⟨imm, rfl, rfl, fun _ => rfl⟩
theorem unimplemented2E : Statement .unimplemented2E := ⟨rfl, rfl, fun _ => rfl⟩
theorem unsettled2F : Statement .unsettled2F := ⟨rfl, rfl, fun _ => rfl⟩
theorem xorRm8R8 (rm : Rm8) (r : Reg8) : Statement (.xorRm8R8 rm r) :=
  show BuiltBy _ (shapeOf 0x30) from ⟨rm, r, rfl, rfl, fun _ => rfl⟩
theorem xorRm16R16 (rm : Rm16) (r : Reg16) : Statement (.xorRm16R16 rm r) :=
  show BuiltBy _ (shapeOf 0x31) from ⟨rm, r, rfl, rfl, fun _ => rfl⟩
theorem xorR8Rm8 (r : Reg8) (rm : Rm8) : Statement (.xorR8Rm8 r rm) :=
  show BuiltBy _ (shapeOf 0x32) from ⟨rm, r, rfl, rfl, fun _ => rfl⟩
theorem xorR16Rm16 (r : Reg16) (rm : Rm16) : Statement (.xorR16Rm16 r rm) :=
  show BuiltBy _ (shapeOf 0x33) from ⟨rm, r, rfl, rfl, fun _ => rfl⟩
theorem xorAlImm8 (imm : Byte) : Statement (.xorAlImm8 imm) :=
  show BuiltBy _ (shapeOf 0x34) from ⟨imm, rfl, rfl, fun _ => rfl⟩
theorem xorAxImm16 (imm : Word) : Statement (.xorAxImm16 imm) :=
  show BuiltBy _ (shapeOf 0x35) from ⟨imm, rfl, rfl, fun _ => rfl⟩
theorem unimplemented36 : Statement .unimplemented36 := ⟨rfl, rfl, fun _ => rfl⟩
theorem unsettled37 : Statement .unsettled37 := ⟨rfl, rfl, fun _ => rfl⟩
theorem cmpRm8R8 (rm : Rm8) (r : Reg8) : Statement (.cmpRm8R8 rm r) :=
  show BuiltBy _ (shapeOf 0x38) from ⟨rm, r, rfl, rfl, fun _ => rfl⟩
theorem cmpRm16R16 (rm : Rm16) (r : Reg16) : Statement (.cmpRm16R16 rm r) :=
  show BuiltBy _ (shapeOf 0x39) from ⟨rm, r, rfl, rfl, fun _ => rfl⟩
theorem cmpR8Rm8 (r : Reg8) (rm : Rm8) : Statement (.cmpR8Rm8 r rm) :=
  show BuiltBy _ (shapeOf 0x3A) from ⟨rm, r, rfl, rfl, fun _ => rfl⟩
theorem cmpR16Rm16 (r : Reg16) (rm : Rm16) : Statement (.cmpR16Rm16 r rm) :=
  show BuiltBy _ (shapeOf 0x3B) from ⟨rm, r, rfl, rfl, fun _ => rfl⟩
theorem cmpAlImm8 (imm : Byte) : Statement (.cmpAlImm8 imm) :=
  show BuiltBy _ (shapeOf 0x3C) from ⟨imm, rfl, rfl, fun _ => rfl⟩
theorem cmpAxImm16 (imm : Word) : Statement (.cmpAxImm16 imm) :=
  show BuiltBy _ (shapeOf 0x3D) from ⟨imm, rfl, rfl, fun _ => rfl⟩
theorem unimplemented3E : Statement .unimplemented3E := ⟨rfl, rfl, fun _ => rfl⟩
theorem unsettled3F : Statement .unsettled3F := ⟨rfl, rfl, fun _ => rfl⟩
theorem incAx : Statement .incAx := ⟨rfl, rfl, fun _ => rfl⟩
theorem incCx : Statement .incCx := ⟨rfl, rfl, fun _ => rfl⟩
theorem incDx : Statement .incDx := ⟨rfl, rfl, fun _ => rfl⟩
theorem incBx : Statement .incBx := ⟨rfl, rfl, fun _ => rfl⟩
theorem incSp : Statement .incSp := ⟨rfl, rfl, fun _ => rfl⟩
theorem incBp : Statement .incBp := ⟨rfl, rfl, fun _ => rfl⟩
theorem incSi : Statement .incSi := ⟨rfl, rfl, fun _ => rfl⟩
theorem incDi : Statement .incDi := ⟨rfl, rfl, fun _ => rfl⟩
theorem decAx : Statement .decAx := ⟨rfl, rfl, fun _ => rfl⟩
theorem decCx : Statement .decCx := ⟨rfl, rfl, fun _ => rfl⟩
theorem decDx : Statement .decDx := ⟨rfl, rfl, fun _ => rfl⟩
theorem decBx : Statement .decBx := ⟨rfl, rfl, fun _ => rfl⟩
theorem decSp : Statement .decSp := ⟨rfl, rfl, fun _ => rfl⟩
theorem decBp : Statement .decBp := ⟨rfl, rfl, fun _ => rfl⟩
theorem decSi : Statement .decSi := ⟨rfl, rfl, fun _ => rfl⟩
theorem decDi : Statement .decDi := ⟨rfl, rfl, fun _ => rfl⟩
theorem pushAx : Statement .pushAx := ⟨rfl, rfl, fun _ => rfl⟩
theorem pushCx : Statement .pushCx := ⟨rfl, rfl, fun _ => rfl⟩
theorem pushDx : Statement .pushDx := ⟨rfl, rfl, fun _ => rfl⟩
theorem pushBx : Statement .pushBx := ⟨rfl, rfl, fun _ => rfl⟩
theorem pushSp : Statement .pushSp := ⟨rfl, rfl, fun _ => rfl⟩
theorem pushBp : Statement .pushBp := ⟨rfl, rfl, fun _ => rfl⟩
theorem pushSi : Statement .pushSi := ⟨rfl, rfl, fun _ => rfl⟩
theorem pushDi : Statement .pushDi := ⟨rfl, rfl, fun _ => rfl⟩
theorem popAx : Statement .popAx := ⟨rfl, rfl, fun _ => rfl⟩
theorem popCx : Statement .popCx := ⟨rfl, rfl, fun _ => rfl⟩
theorem popDx : Statement .popDx := ⟨rfl, rfl, fun _ => rfl⟩
theorem popBx : Statement .popBx := ⟨rfl, rfl, fun _ => rfl⟩
theorem popSp : Statement .popSp := ⟨rfl, rfl, fun _ => rfl⟩
theorem popBp : Statement .popBp := ⟨rfl, rfl, fun _ => rfl⟩
theorem popSi : Statement .popSi := ⟨rfl, rfl, fun _ => rfl⟩
theorem popDi : Statement .popDi := ⟨rfl, rfl, fun _ => rfl⟩
theorem unimplemented60 : Statement .unimplemented60 := ⟨rfl, rfl, fun _ => rfl⟩
theorem unimplemented61 : Statement .unimplemented61 := ⟨rfl, rfl, fun _ => rfl⟩
theorem unimplemented62 : Statement .unimplemented62 := ⟨rfl, rfl, fun _ => rfl⟩
theorem unimplemented63 : Statement .unimplemented63 := ⟨rfl, rfl, fun _ => rfl⟩
theorem unimplemented64 : Statement .unimplemented64 := ⟨rfl, rfl, fun _ => rfl⟩
theorem unimplemented65 : Statement .unimplemented65 := ⟨rfl, rfl, fun _ => rfl⟩
theorem unimplemented66 : Statement .unimplemented66 := ⟨rfl, rfl, fun _ => rfl⟩
theorem unimplemented67 : Statement .unimplemented67 := ⟨rfl, rfl, fun _ => rfl⟩
theorem unimplemented68 : Statement .unimplemented68 := ⟨rfl, rfl, fun _ => rfl⟩
theorem unimplemented69 : Statement .unimplemented69 := ⟨rfl, rfl, fun _ => rfl⟩
theorem unimplemented6A : Statement .unimplemented6A := ⟨rfl, rfl, fun _ => rfl⟩
theorem unimplemented6B : Statement .unimplemented6B := ⟨rfl, rfl, fun _ => rfl⟩
theorem unimplemented6C : Statement .unimplemented6C := ⟨rfl, rfl, fun _ => rfl⟩
theorem unimplemented6D : Statement .unimplemented6D := ⟨rfl, rfl, fun _ => rfl⟩
theorem unimplemented6E : Statement .unimplemented6E := ⟨rfl, rfl, fun _ => rfl⟩
theorem unimplemented6F : Statement .unimplemented6F := ⟨rfl, rfl, fun _ => rfl⟩
theorem unimplemented70 : Statement .unimplemented70 := ⟨rfl, rfl, fun _ => rfl⟩
theorem unimplemented71 : Statement .unimplemented71 := ⟨rfl, rfl, fun _ => rfl⟩
theorem unimplemented72 : Statement .unimplemented72 := ⟨rfl, rfl, fun _ => rfl⟩
theorem unimplemented73 : Statement .unimplemented73 := ⟨rfl, rfl, fun _ => rfl⟩
theorem unimplemented74 : Statement .unimplemented74 := ⟨rfl, rfl, fun _ => rfl⟩
theorem unimplemented75 : Statement .unimplemented75 := ⟨rfl, rfl, fun _ => rfl⟩
theorem unimplemented76 : Statement .unimplemented76 := ⟨rfl, rfl, fun _ => rfl⟩
theorem unimplemented77 : Statement .unimplemented77 := ⟨rfl, rfl, fun _ => rfl⟩
theorem unimplemented78 : Statement .unimplemented78 := ⟨rfl, rfl, fun _ => rfl⟩
theorem unimplemented79 : Statement .unimplemented79 := ⟨rfl, rfl, fun _ => rfl⟩
theorem unimplemented7A : Statement .unimplemented7A := ⟨rfl, rfl, fun _ => rfl⟩
theorem unimplemented7B : Statement .unimplemented7B := ⟨rfl, rfl, fun _ => rfl⟩
theorem unimplemented7C : Statement .unimplemented7C := ⟨rfl, rfl, fun _ => rfl⟩
theorem unimplemented7D : Statement .unimplemented7D := ⟨rfl, rfl, fun _ => rfl⟩
theorem unimplemented7E : Statement .unimplemented7E := ⟨rfl, rfl, fun _ => rfl⟩
theorem unimplemented7F : Statement .unimplemented7F := ⟨rfl, rfl, fun _ => rfl⟩
theorem unsettled80 : Statement .unsettled80 := ⟨rfl, rfl, fun _ => rfl⟩
theorem unsettled81 : Statement .unsettled81 := ⟨rfl, rfl, fun _ => rfl⟩
theorem unsettled82 : Statement .unsettled82 := ⟨rfl, rfl, fun _ => rfl⟩
theorem unsettled83 : Statement .unsettled83 := ⟨rfl, rfl, fun _ => rfl⟩
theorem unsettled84 : Statement .unsettled84 := ⟨rfl, rfl, fun _ => rfl⟩
theorem unsettled85 : Statement .unsettled85 := ⟨rfl, rfl, fun _ => rfl⟩
theorem unimplemented86 : Statement .unimplemented86 := ⟨rfl, rfl, fun _ => rfl⟩
theorem unimplemented87 : Statement .unimplemented87 := ⟨rfl, rfl, fun _ => rfl⟩
theorem unimplemented88 : Statement .unimplemented88 := ⟨rfl, rfl, fun _ => rfl⟩
theorem unimplemented89 : Statement .unimplemented89 := ⟨rfl, rfl, fun _ => rfl⟩
theorem unimplemented8A : Statement .unimplemented8A := ⟨rfl, rfl, fun _ => rfl⟩
theorem unimplemented8B : Statement .unimplemented8B := ⟨rfl, rfl, fun _ => rfl⟩
theorem unimplemented8C : Statement .unimplemented8C := ⟨rfl, rfl, fun _ => rfl⟩
theorem unimplemented8D : Statement .unimplemented8D := ⟨rfl, rfl, fun _ => rfl⟩
theorem unimplemented8E : Statement .unimplemented8E := ⟨rfl, rfl, fun _ => rfl⟩
theorem unsettled8F : Statement .unsettled8F := ⟨rfl, rfl, fun _ => rfl⟩
theorem unimplemented90 : Statement .unimplemented90 := ⟨rfl, rfl, fun _ => rfl⟩
theorem unimplemented91 : Statement .unimplemented91 := ⟨rfl, rfl, fun _ => rfl⟩
theorem unimplemented92 : Statement .unimplemented92 := ⟨rfl, rfl, fun _ => rfl⟩
theorem unimplemented93 : Statement .unimplemented93 := ⟨rfl, rfl, fun _ => rfl⟩
theorem unimplemented94 : Statement .unimplemented94 := ⟨rfl, rfl, fun _ => rfl⟩
theorem unimplemented95 : Statement .unimplemented95 := ⟨rfl, rfl, fun _ => rfl⟩
theorem unimplemented96 : Statement .unimplemented96 := ⟨rfl, rfl, fun _ => rfl⟩
theorem unimplemented97 : Statement .unimplemented97 := ⟨rfl, rfl, fun _ => rfl⟩
theorem unimplemented98 : Statement .unimplemented98 := ⟨rfl, rfl, fun _ => rfl⟩
theorem unimplemented99 : Statement .unimplemented99 := ⟨rfl, rfl, fun _ => rfl⟩
theorem unimplemented9A : Statement .unimplemented9A := ⟨rfl, rfl, fun _ => rfl⟩
theorem unimplemented9B : Statement .unimplemented9B := ⟨rfl, rfl, fun _ => rfl⟩
theorem unsettled9C : Statement .unsettled9C := ⟨rfl, rfl, fun _ => rfl⟩
theorem unsettled9D : Statement .unsettled9D := ⟨rfl, rfl, fun _ => rfl⟩
theorem unimplemented9E : Statement .unimplemented9E := ⟨rfl, rfl, fun _ => rfl⟩
theorem unimplemented9F : Statement .unimplemented9F := ⟨rfl, rfl, fun _ => rfl⟩
theorem unimplementedA0 : Statement .unimplementedA0 := ⟨rfl, rfl, fun _ => rfl⟩
theorem unimplementedA1 : Statement .unimplementedA1 := ⟨rfl, rfl, fun _ => rfl⟩
theorem unimplementedA2 : Statement .unimplementedA2 := ⟨rfl, rfl, fun _ => rfl⟩
theorem unimplementedA3 : Statement .unimplementedA3 := ⟨rfl, rfl, fun _ => rfl⟩
theorem unimplementedA4 : Statement .unimplementedA4 := ⟨rfl, rfl, fun _ => rfl⟩
theorem unimplementedA5 : Statement .unimplementedA5 := ⟨rfl, rfl, fun _ => rfl⟩
theorem unimplementedA6 : Statement .unimplementedA6 := ⟨rfl, rfl, fun _ => rfl⟩
theorem unimplementedA7 : Statement .unimplementedA7 := ⟨rfl, rfl, fun _ => rfl⟩
theorem unsettledA8 : Statement .unsettledA8 := ⟨rfl, rfl, fun _ => rfl⟩
theorem unsettledA9 : Statement .unsettledA9 := ⟨rfl, rfl, fun _ => rfl⟩
theorem unimplementedAA : Statement .unimplementedAA := ⟨rfl, rfl, fun _ => rfl⟩
theorem unimplementedAB : Statement .unimplementedAB := ⟨rfl, rfl, fun _ => rfl⟩
theorem unimplementedAC : Statement .unimplementedAC := ⟨rfl, rfl, fun _ => rfl⟩
theorem unimplementedAD : Statement .unimplementedAD := ⟨rfl, rfl, fun _ => rfl⟩
theorem unimplementedAE : Statement .unimplementedAE := ⟨rfl, rfl, fun _ => rfl⟩
theorem unimplementedAF : Statement .unimplementedAF := ⟨rfl, rfl, fun _ => rfl⟩
theorem unimplementedB0 : Statement .unimplementedB0 := ⟨rfl, rfl, fun _ => rfl⟩
theorem unimplementedB1 : Statement .unimplementedB1 := ⟨rfl, rfl, fun _ => rfl⟩
theorem unimplementedB2 : Statement .unimplementedB2 := ⟨rfl, rfl, fun _ => rfl⟩
theorem unimplementedB3 : Statement .unimplementedB3 := ⟨rfl, rfl, fun _ => rfl⟩
theorem unimplementedB4 : Statement .unimplementedB4 := ⟨rfl, rfl, fun _ => rfl⟩
theorem unimplementedB5 : Statement .unimplementedB5 := ⟨rfl, rfl, fun _ => rfl⟩
theorem unimplementedB6 : Statement .unimplementedB6 := ⟨rfl, rfl, fun _ => rfl⟩
theorem unimplementedB7 : Statement .unimplementedB7 := ⟨rfl, rfl, fun _ => rfl⟩
theorem unimplementedB8 : Statement .unimplementedB8 := ⟨rfl, rfl, fun _ => rfl⟩
theorem unimplementedB9 : Statement .unimplementedB9 := ⟨rfl, rfl, fun _ => rfl⟩
theorem unimplementedBA : Statement .unimplementedBA := ⟨rfl, rfl, fun _ => rfl⟩
theorem unimplementedBB : Statement .unimplementedBB := ⟨rfl, rfl, fun _ => rfl⟩
theorem unimplementedBC : Statement .unimplementedBC := ⟨rfl, rfl, fun _ => rfl⟩
theorem unimplementedBD : Statement .unimplementedBD := ⟨rfl, rfl, fun _ => rfl⟩
theorem unimplementedBE : Statement .unimplementedBE := ⟨rfl, rfl, fun _ => rfl⟩
theorem unimplementedBF : Statement .unimplementedBF := ⟨rfl, rfl, fun _ => rfl⟩
theorem unimplementedC0 : Statement .unimplementedC0 := ⟨rfl, rfl, fun _ => rfl⟩
theorem unimplementedC1 : Statement .unimplementedC1 := ⟨rfl, rfl, fun _ => rfl⟩
theorem unimplementedC2 : Statement .unimplementedC2 := ⟨rfl, rfl, fun _ => rfl⟩
theorem unimplementedC3 : Statement .unimplementedC3 := ⟨rfl, rfl, fun _ => rfl⟩
theorem unimplementedC4 : Statement .unimplementedC4 := ⟨rfl, rfl, fun _ => rfl⟩
theorem unimplementedC5 : Statement .unimplementedC5 := ⟨rfl, rfl, fun _ => rfl⟩
theorem unimplementedC6 : Statement .unimplementedC6 := ⟨rfl, rfl, fun _ => rfl⟩
theorem unimplementedC7 : Statement .unimplementedC7 := ⟨rfl, rfl, fun _ => rfl⟩
theorem unimplementedC8 : Statement .unimplementedC8 := ⟨rfl, rfl, fun _ => rfl⟩
theorem unimplementedC9 : Statement .unimplementedC9 := ⟨rfl, rfl, fun _ => rfl⟩
theorem unimplementedCA : Statement .unimplementedCA := ⟨rfl, rfl, fun _ => rfl⟩
theorem unimplementedCB : Statement .unimplementedCB := ⟨rfl, rfl, fun _ => rfl⟩
theorem unimplementedCC : Statement .unimplementedCC := ⟨rfl, rfl, fun _ => rfl⟩
theorem unimplementedCD : Statement .unimplementedCD := ⟨rfl, rfl, fun _ => rfl⟩
theorem unimplementedCE : Statement .unimplementedCE := ⟨rfl, rfl, fun _ => rfl⟩
theorem unimplementedCF : Statement .unimplementedCF := ⟨rfl, rfl, fun _ => rfl⟩
theorem unsettledD0 : Statement .unsettledD0 := ⟨rfl, rfl, fun _ => rfl⟩
theorem unsettledD1 : Statement .unsettledD1 := ⟨rfl, rfl, fun _ => rfl⟩
theorem unsettledD2 : Statement .unsettledD2 := ⟨rfl, rfl, fun _ => rfl⟩
theorem unsettledD3 : Statement .unsettledD3 := ⟨rfl, rfl, fun _ => rfl⟩
theorem unsettledD4 : Statement .unsettledD4 := ⟨rfl, rfl, fun _ => rfl⟩
theorem unsettledD5 : Statement .unsettledD5 := ⟨rfl, rfl, fun _ => rfl⟩
theorem unimplementedD6 : Statement .unimplementedD6 := ⟨rfl, rfl, fun _ => rfl⟩
theorem unimplementedD7 : Statement .unimplementedD7 := ⟨rfl, rfl, fun _ => rfl⟩
theorem unimplementedD8 : Statement .unimplementedD8 := ⟨rfl, rfl, fun _ => rfl⟩
theorem unimplementedD9 : Statement .unimplementedD9 := ⟨rfl, rfl, fun _ => rfl⟩
theorem unimplementedDA : Statement .unimplementedDA := ⟨rfl, rfl, fun _ => rfl⟩
theorem unimplementedDB : Statement .unimplementedDB := ⟨rfl, rfl, fun _ => rfl⟩
theorem unimplementedDC : Statement .unimplementedDC := ⟨rfl, rfl, fun _ => rfl⟩
theorem unimplementedDD : Statement .unimplementedDD := ⟨rfl, rfl, fun _ => rfl⟩
theorem unimplementedDE : Statement .unimplementedDE := ⟨rfl, rfl, fun _ => rfl⟩
theorem unimplementedDF : Statement .unimplementedDF := ⟨rfl, rfl, fun _ => rfl⟩
theorem unimplementedE0 : Statement .unimplementedE0 := ⟨rfl, rfl, fun _ => rfl⟩
theorem unimplementedE1 : Statement .unimplementedE1 := ⟨rfl, rfl, fun _ => rfl⟩
theorem unimplementedE2 : Statement .unimplementedE2 := ⟨rfl, rfl, fun _ => rfl⟩
theorem unimplementedE3 : Statement .unimplementedE3 := ⟨rfl, rfl, fun _ => rfl⟩
theorem unimplementedE4 : Statement .unimplementedE4 := ⟨rfl, rfl, fun _ => rfl⟩
theorem unimplementedE5 : Statement .unimplementedE5 := ⟨rfl, rfl, fun _ => rfl⟩
theorem unimplementedE6 : Statement .unimplementedE6 := ⟨rfl, rfl, fun _ => rfl⟩
theorem unimplementedE7 : Statement .unimplementedE7 := ⟨rfl, rfl, fun _ => rfl⟩
theorem unimplementedE8 : Statement .unimplementedE8 := ⟨rfl, rfl, fun _ => rfl⟩
theorem unimplementedE9 : Statement .unimplementedE9 := ⟨rfl, rfl, fun _ => rfl⟩
theorem unimplementedEA : Statement .unimplementedEA := ⟨rfl, rfl, fun _ => rfl⟩
theorem unimplementedEB : Statement .unimplementedEB := ⟨rfl, rfl, fun _ => rfl⟩
theorem unimplementedEC : Statement .unimplementedEC := ⟨rfl, rfl, fun _ => rfl⟩
theorem unimplementedED : Statement .unimplementedED := ⟨rfl, rfl, fun _ => rfl⟩
theorem unimplementedEE : Statement .unimplementedEE := ⟨rfl, rfl, fun _ => rfl⟩
theorem unimplementedEF : Statement .unimplementedEF := ⟨rfl, rfl, fun _ => rfl⟩
theorem unimplementedF0 : Statement .unimplementedF0 := ⟨rfl, rfl, fun _ => rfl⟩
theorem unimplementedF1 : Statement .unimplementedF1 := ⟨rfl, rfl, fun _ => rfl⟩
theorem unimplementedF2 : Statement .unimplementedF2 := ⟨rfl, rfl, fun _ => rfl⟩
theorem unimplementedF3 : Statement .unimplementedF3 := ⟨rfl, rfl, fun _ => rfl⟩
theorem hlt : Statement .hlt := ⟨rfl, rfl, fun _ => rfl⟩
theorem unimplementedF5 : Statement .unimplementedF5 := ⟨rfl, rfl, fun _ => rfl⟩
theorem unsettledF6 : Statement .unsettledF6 := ⟨rfl, rfl, fun _ => rfl⟩
theorem unsettledF7 : Statement .unsettledF7 := ⟨rfl, rfl, fun _ => rfl⟩
theorem unimplementedF8 : Statement .unimplementedF8 := ⟨rfl, rfl, fun _ => rfl⟩
theorem unimplementedF9 : Statement .unimplementedF9 := ⟨rfl, rfl, fun _ => rfl⟩
theorem unimplementedFA : Statement .unimplementedFA := ⟨rfl, rfl, fun _ => rfl⟩
theorem unimplementedFB : Statement .unimplementedFB := ⟨rfl, rfl, fun _ => rfl⟩
theorem unimplementedFC : Statement .unimplementedFC := ⟨rfl, rfl, fun _ => rfl⟩
theorem unimplementedFD : Statement .unimplementedFD := ⟨rfl, rfl, fun _ => rfl⟩
theorem unsettledFE : Statement .unsettledFE := ⟨rfl, rfl, fun _ => rfl⟩
theorem unsettledFF : Statement .unsettledFF := ⟨rfl, rfl, fun _ => rfl⟩

end Sys2Proof.Laws.Encoding
end

