-- ==== Sys2Proof/Tests/Slice0.lean ====
section
/-! SUPPORT. Tests. Every expected value comes from spec/: the worked examples of 43_alu_instructions.md and
44_incdec_stack.md, the vectors of 95_test_vectors.md, the encodings of 30_encoding.md; the vector's name stands in
the theorem's name. The witnesses of the statements' hypotheses stand at the end. -/

namespace Sys2Proof.Tests

open Sys2Proof Sys2Proof.Machine

/-! ### Helpers -/

def zeroGpr : Gpr := { ax := 0, cx := 0, dx := 0, bx := 0, sp := 0, bp := 0, si := 0, di := 0 }

/-- The six flags a rule writes, the other three 0. -/
def six (cf pf af zf sf of_ : Bool) : Flags :=
  { cf := cf, pf := pf, af := af, zf := zf, sf := sf, tf := false, if_ := false, df := false, of_ := of_ }

/-- The start of a vector: code at offset 0, the registers, CF and AF, and bytes of data; the rest is 0 (95). -/
def launch (code : List Byte) (g : Gpr) (cf af : Bool) (data : List (Nat × Byte)) : State :=
  placeBytes
    (data.foldl (fun s c => s.storeByte c.1 c.2)
      { State.reset with gpr := g, flags := six cf false af false false false })
    0 code

def atIp (s : State) (ip : Word) : State := { s with ip := ip }

def withMemSize (n : Nat) (s : State) : State := { s with params := { s.params with memSize := n } }

/-- The state after one step, looked at. -/
def after {α : Type} (s : State) (view : State → α) : Option α :=
  match step s with
  | .next t => some (view t)
  | .fault _ => none
  | .refused _ => none

/-- One step gives these registers, IP, bytes and flags; it neither halts nor raises. -/
def stepGives (s : State) (g : Gpr) (ip : Word) (data : List (Nat × Byte)) (f : Flags) : Bool :=
  after s (fun t => decide (t.gpr = g ∧ t.ip = ip ∧ t.flags = f ∧ t.halted = false ∧ t.error = none) &&
    data.all fun c => decide (t.byteAt c.1 = c.2)) == some true

/-! ### Well-formedness: each check refuses an ill-formed term (40_operand_resolver.md R106) -/

theorem test_wf_direct_needs_directDisp16 : MemOperand.wf .bpIndirect (.direct 0x1234) = false := by decide
theorem test_wf_bp_needs_bpIndirect : MemOperand.wf .directDisp16 (.plain .bp) = false := by decide
theorem test_wf_direct_allowed : MemOperand.wf .directDisp16 (.direct 0x1234) = true := by decide
theorem test_wf_rm8 : Rm8.wf .bpIndirect (.mem (.direct 0)) = false := by decide
theorem test_wf_rm16 : Rm16.wf .directDisp16 (.mem (.plain .bp)) = false := by decide
theorem test_wf_instr_rm8 : Instr.wf .bpIndirect (.addRm8R8 (.mem (.direct 0)) .al) = false := by decide
theorem test_wf_instr_rm16 : Instr.wf .directDisp16 (.cmpR16Rm16 .ax (.mem (.plain .bp))) = false := by decide
theorem test_wf_params : Params.wf { Params.launch with memSize := 0 } = false := by decide


/-! ### Decoding: every constructor, from words written out from 30_encoding.md R72 to R82 -/

/-- What each byte list decodes to. -/
def decodesTo (rows : List (List Byte × Instr)) : Bool :=
  rows.all fun r => decide (decode .bpIndirect r.1 = .ok r.2)

theorem test_decode_row_0 : decodesTo
    [([0x00, 0x0B], .addRm8R8 (.mem (.plain .bpDi)) .cl),
    ([0x01, 0x60, 0x82], .addRm16R16 (.mem (.disp8 .bxSi 0x82)) .sp),
    ([0x02, 0xBD, 0x03, 0xFE], .addR8Rm8 .bh (.mem (.disp16 .di 0xFE03))),
    ([0x03, 0xD2], .addR16Rm16 .dx (.reg .dx)), ([0x04, 0x7F], .addAlImm8 0x7F),
    ([0x05, 0x34, 0x12], .addAxImm16 0x1234), ([0x06], .unsettled06), ([0x07], .unsettled07),
    ([0x08, 0x6F, 0x85], .orRm8R8 (.mem (.disp8 .bx 0x85)) .ch),
    ([0x09, 0x84, 0x06, 0xFE], .orRm16R16 (.mem (.disp16 .si 0xFE06)) .ax), ([0x0A, 0xD9], .orR8Rm8 .bl (.reg .cl)),
    ([0x0B, 0x36], .orR16Rm16 .si (.mem (.plain .bp))), ([0x0C, 0x7F], .orAlImm8 0x7F),
    ([0x0D, 0x34, 0x12], .orAxImm16 0x1234), ([0x0E], .unsettled0E), ([0x0F], .unsettled0F)] = true := by decide

theorem test_decode_row_1 : decodesTo
    [([0x10, 0x94, 0x09, 0xFE], .adcRm8R8 (.mem (.disp16 .si 0xFE09)) .dl),
    ([0x11, 0xE9], .adcRm16R16 (.reg .cx) .bp), ([0x12, 0x06], .adcR8Rm8 .al (.mem (.plain .bp))),
    ([0x13, 0x5B, 0x8C], .adcR16Rm16 .bx (.mem (.disp8 .bpDi 0x8C))), ([0x14, 0x7F], .adcAlImm8 0x7F),
    ([0x15, 0x34, 0x12], .adcAxImm16 0x1234), ([0x16], .unsettled16), ([0x17], .unsettled17),
    ([0x18, 0xF0], .sbbRm8R8 (.reg .al) .dh), ([0x19, 0x0D], .sbbRm16R16 (.mem (.plain .di)) .cx),
    ([0x1A, 0x62, 0x8F], .sbbR8Rm8 .ah (.mem (.disp8 .bpSi 0x8F))),
    ([0x1B, 0xBF, 0x10, 0xFE], .sbbR16Rm16 .di (.mem (.disp16 .bx 0xFE10))), ([0x1C, 0x7F], .sbbAlImm8 0x7F),
    ([0x1D, 0x34, 0x12], .sbbAxImm16 0x1234), ([0x1E], .unsettled1E), ([0x1F], .unsettled1F)] = true := by decide

theorem test_decode_row_2 : decodesTo
    [([0x20, 0x1D], .andRm8R8 (.mem (.plain .di)) .bl),
    ([0x21, 0x72, 0x92], .andRm16R16 (.mem (.disp8 .bpSi 0x92)) .si),
    ([0x22, 0x8F, 0x13, 0xFE], .andR8Rm8 .cl (.mem (.disp16 .bx 0xFE13))),
    ([0x23, 0xE4], .andR16Rm16 .sp (.reg .sp)), ([0x24, 0x7F], .andAlImm8 0x7F),
    ([0x25, 0x34, 0x12], .andAxImm16 0x1234), ([0x26], .unimplemented26), ([0x27], .daa),
    ([0x28, 0x79, 0x95], .subRm8R8 (.mem (.disp8 .bxDi 0x95)) .bh),
    ([0x29, 0x96, 0x16, 0xFE], .subRm16R16 (.mem (.disp16 .bp 0xFE16)) .dx),
    ([0x2A, 0xEB], .subR8Rm8 .ch (.reg .bl)), ([0x2B, 0x00], .subR16Rm16 .ax (.mem (.plain .bxSi))),
    ([0x2C, 0x7F], .subAlImm8 0x7F), ([0x2D, 0x34, 0x12], .subAxImm16 0x1234), ([0x2E], .unimplemented2E),
    ([0x2F], .unsettled2F)] = true := by decide

theorem test_decode_row_3 : decodesTo
    [([0x30, 0xA6, 0x19, 0xFE], .xorRm8R8 (.mem (.disp16 .bp 0xFE19)) .ah),
    ([0x31, 0xFB], .xorRm16R16 (.reg .bx) .di), ([0x32, 0x10], .xorR8Rm8 .dl (.mem (.plain .bxSi))),
    ([0x33, 0x6D, 0x9C], .xorR16Rm16 .bp (.mem (.disp8 .di 0x9C))), ([0x34, 0x7F], .xorAlImm8 0x7F),
    ([0x35, 0x34, 0x12], .xorAxImm16 0x1234), ([0x36], .unimplemented36), ([0x37], .unsettled37),
    ([0x38, 0xC2], .cmpRm8R8 (.reg .dl) .al), ([0x39, 0x1F], .cmpRm16R16 (.mem (.plain .bx)) .bx),
    ([0x3A, 0x74, 0x9F], .cmpR8Rm8 .dh (.mem (.disp8 .si 0x9F))),
    ([0x3B, 0x89, 0x20, 0xFE], .cmpR16Rm16 .cx (.mem (.disp16 .bxDi 0xFE20))), ([0x3C, 0x7F], .cmpAlImm8 0x7F),
    ([0x3D, 0x34, 0x12], .cmpAxImm16 0x1234), ([0x3E], .unimplemented3E), ([0x3F], .unsettled3F)] = true := by decide

theorem test_decode_row_4 : decodesTo
    [([0x40], .incAx), ([0x41], .incCx), ([0x42], .incDx), ([0x43], .incBx), ([0x44], .incSp), ([0x45], .incBp),
    ([0x46], .incSi), ([0x47], .incDi), ([0x48], .decAx), ([0x49], .decCx), ([0x4A], .decDx), ([0x4B], .decBx),
    ([0x4C], .decSp), ([0x4D], .decBp), ([0x4E], .decSi), ([0x4F], .decDi)] = true := by decide

theorem test_decode_row_5 : decodesTo
    [([0x50], .pushAx), ([0x51], .pushCx), ([0x52], .pushDx), ([0x53], .pushBx), ([0x54], .pushSp),
    ([0x55], .pushBp), ([0x56], .pushSi), ([0x57], .pushDi), ([0x58], .popAx), ([0x59], .popCx), ([0x5A], .popDx),
    ([0x5B], .popBx), ([0x5C], .popSp), ([0x5D], .popBp), ([0x5E], .popSi), ([0x5F], .popDi)] = true := by decide

theorem test_decode_row_6 : decodesTo
    [([0x60], .unimplemented60), ([0x61], .unimplemented61), ([0x62], .unimplemented62), ([0x63], .unimplemented63),
    ([0x64], .unimplemented64), ([0x65], .unimplemented65), ([0x66], .unimplemented66), ([0x67], .unimplemented67),
    ([0x68], .unimplemented68), ([0x69], .unimplemented69), ([0x6A], .unimplemented6A), ([0x6B], .unimplemented6B),
    ([0x6C], .unimplemented6C), ([0x6D], .unimplemented6D), ([0x6E], .unimplemented6E), ([0x6F], .unimplemented6F)] = true := by decide

theorem test_decode_row_7 : decodesTo
    [([0x70], .unimplemented70), ([0x71], .unimplemented71), ([0x72], .unimplemented72), ([0x73], .unimplemented73),
    ([0x74], .unimplemented74), ([0x75], .unimplemented75), ([0x76], .unimplemented76), ([0x77], .unimplemented77),
    ([0x78], .unimplemented78), ([0x79], .unimplemented79), ([0x7A], .unimplemented7A), ([0x7B], .unimplemented7B),
    ([0x7C], .unimplemented7C), ([0x7D], .unimplemented7D), ([0x7E], .unimplemented7E), ([0x7F], .unimplemented7F)] = true := by decide

theorem test_decode_row_8 : decodesTo
    [([0x80], .unsettled80), ([0x81], .unsettled81), ([0x82], .unsettled82), ([0x83], .unsettled83),
    ([0x84], .unsettled84), ([0x85], .unsettled85), ([0x86], .unimplemented86), ([0x87], .unimplemented87),
    ([0x88], .unimplemented88), ([0x89], .unimplemented89), ([0x8A], .unimplemented8A), ([0x8B], .unimplemented8B),
    ([0x8C], .unimplemented8C), ([0x8D], .unimplemented8D), ([0x8E], .unimplemented8E), ([0x8F], .unsettled8F)] = true := by decide

theorem test_decode_row_9 : decodesTo
    [([0x90], .unimplemented90), ([0x91], .unimplemented91), ([0x92], .unimplemented92), ([0x93], .unimplemented93),
    ([0x94], .unimplemented94), ([0x95], .unimplemented95), ([0x96], .unimplemented96), ([0x97], .unimplemented97),
    ([0x98], .unimplemented98), ([0x99], .unimplemented99), ([0x9A], .unimplemented9A), ([0x9B], .unimplemented9B),
    ([0x9C], .unsettled9C), ([0x9D], .unsettled9D), ([0x9E], .unimplemented9E), ([0x9F], .unimplemented9F)] = true := by decide

theorem test_decode_row_A : decodesTo
    [([0xA0], .unimplementedA0), ([0xA1], .unimplementedA1), ([0xA2], .unimplementedA2), ([0xA3], .unimplementedA3),
    ([0xA4], .unimplementedA4), ([0xA5], .unimplementedA5), ([0xA6], .unimplementedA6), ([0xA7], .unimplementedA7),
    ([0xA8], .unsettledA8), ([0xA9], .unsettledA9), ([0xAA], .unimplementedAA), ([0xAB], .unimplementedAB),
    ([0xAC], .unimplementedAC), ([0xAD], .unimplementedAD), ([0xAE], .unimplementedAE), ([0xAF], .unimplementedAF)] = true := by decide

theorem test_decode_row_B : decodesTo
    [([0xB0], .unimplementedB0), ([0xB1], .unimplementedB1), ([0xB2], .unimplementedB2), ([0xB3], .unimplementedB3),
    ([0xB4], .unimplementedB4), ([0xB5], .unimplementedB5), ([0xB6], .unimplementedB6), ([0xB7], .unimplementedB7),
    ([0xB8], .unimplementedB8), ([0xB9], .unimplementedB9), ([0xBA], .unimplementedBA), ([0xBB], .unimplementedBB),
    ([0xBC], .unimplementedBC), ([0xBD], .unimplementedBD), ([0xBE], .unimplementedBE), ([0xBF], .unimplementedBF)] = true := by decide

theorem test_decode_row_C : decodesTo
    [([0xC0], .unimplementedC0), ([0xC1], .unimplementedC1), ([0xC2], .unimplementedC2), ([0xC3], .unimplementedC3),
    ([0xC4], .unimplementedC4), ([0xC5], .unimplementedC5), ([0xC6], .unimplementedC6), ([0xC7], .unimplementedC7),
    ([0xC8], .unimplementedC8), ([0xC9], .unimplementedC9), ([0xCA], .unimplementedCA), ([0xCB], .unimplementedCB),
    ([0xCC], .unimplementedCC), ([0xCD], .unimplementedCD), ([0xCE], .unimplementedCE), ([0xCF], .unimplementedCF)] = true := by decide

theorem test_decode_row_D : decodesTo
    [([0xD0], .unsettledD0), ([0xD1], .unsettledD1), ([0xD2], .unsettledD2), ([0xD3], .unsettledD3),
    ([0xD4], .unsettledD4), ([0xD5], .unsettledD5), ([0xD6], .unimplementedD6), ([0xD7], .unimplementedD7),
    ([0xD8], .unimplementedD8), ([0xD9], .unimplementedD9), ([0xDA], .unimplementedDA), ([0xDB], .unimplementedDB),
    ([0xDC], .unimplementedDC), ([0xDD], .unimplementedDD), ([0xDE], .unimplementedDE), ([0xDF], .unimplementedDF)] = true := by decide

theorem test_decode_row_E : decodesTo
    [([0xE0], .unimplementedE0), ([0xE1], .unimplementedE1), ([0xE2], .unimplementedE2), ([0xE3], .unimplementedE3),
    ([0xE4], .unimplementedE4), ([0xE5], .unimplementedE5), ([0xE6], .unimplementedE6), ([0xE7], .unimplementedE7),
    ([0xE8], .unimplementedE8), ([0xE9], .unimplementedE9), ([0xEA], .unimplementedEA), ([0xEB], .unimplementedEB),
    ([0xEC], .unimplementedEC), ([0xED], .unimplementedED), ([0xEE], .unimplementedEE), ([0xEF], .unimplementedEF)] = true := by decide

theorem test_decode_row_F : decodesTo
    [([0xF0], .unimplementedF0), ([0xF1], .unimplementedF1), ([0xF2], .unimplementedF2), ([0xF3], .unimplementedF3),
    ([0xF4], .hlt), ([0xF5], .unimplementedF5), ([0xF6], .unsettledF6), ([0xF7], .unsettledF7),
    ([0xF8], .unimplementedF8), ([0xF9], .unimplementedF9), ([0xFA], .unimplementedFA), ([0xFB], .unimplementedFB),
    ([0xFC], .unimplementedFC), ([0xFD], .unimplementedFD), ([0xFE], .unsettledFE), ([0xFF], .unsettledFF)] = true := by decide

/-! ### One step each: the worked example of every rule of 43_alu_instructions.md and 44_incdec_stack.md -/

theorem test_R210_add_al_bl :
    stepGives
      (launch [0x00, 0xD8] { zeroGpr with ax := 0x12F0, bx := 0x0020 } true true
        [])
      { zeroGpr with ax := 0x1210, bx := 0x0020 } 0x0002
      []
      (six true false false false false false) = true := by decide

theorem test_R211_add_bx_si_0x02_ax :
    stepGives
      (launch [0x01, 0x40, 0x02] { zeroGpr with ax := 0x8001, bx := 0x0100, si := 0x0010 } true true
        [(0x0112, 0x01), (0x0113, 0x80)])
      { zeroGpr with ax := 0x8001, bx := 0x0100, si := 0x0010 } 0x0003
      [(0x0112, 0x02), (0x0113, 0x00)]
      (six true false false false false true) = true := by decide

theorem test_R212_add_cl_bx :
    stepGives
      (launch [0x02, 0x0F] { zeroGpr with cx := 0x0081, bx := 0x0200 } true true
        [(0x0200, 0x7F)])
      { zeroGpr with cx := 0x0000, bx := 0x0200 } 0x0002
      [(0x0200, 0x7F)]
      (six true true true true false false) = true := by decide

theorem test_R213_add_dx_bp_di_0x0100 :
    stepGives
      (launch [0x03, 0x93, 0x00, 0x01] { zeroGpr with dx := 0x0001, bp := 0x0300, di := 0x0004 } true true
        [(0x0404, 0xFF), (0x0405, 0xFF)])
      { zeroGpr with dx := 0x0000, bp := 0x0300, di := 0x0004 } 0x0004
      [(0x0404, 0xFF), (0x0405, 0xFF)]
      (six true true true true false false) = true := by decide

theorem test_R214_add_al_0x7f :
    stepGives
      (launch [0x04, 0x7F] { zeroGpr with ax := 0x1201 } true true
        [])
      { zeroGpr with ax := 0x1280 } 0x0002
      []
      (six false false true false true true) = true := by decide

theorem test_R215_add_ax_0x8000 :
    stepGives
      (launch [0x05, 0x00, 0x80] { zeroGpr with ax := 0x8000 } true true
        [])
      { zeroGpr with ax := 0x0000 } 0x0003
      []
      (six true true false true false true) = true := by decide

theorem test_R216_or_al_bl :
    stepGives
      (launch [0x08, 0xD8] { zeroGpr with ax := 0x12F0, bx := 0x0020 } true true
        [])
      { zeroGpr with ax := 0x12F0, bx := 0x0020 } 0x0002
      []
      (six false true true false true false) = true := by decide

theorem test_R217_or_bx_si_0x02_ax :
    stepGives
      (launch [0x09, 0x40, 0x02] { zeroGpr with ax := 0x8001, bx := 0x0100, si := 0x0010 } true true
        [(0x0112, 0x01), (0x0113, 0x80)])
      { zeroGpr with ax := 0x8001, bx := 0x0100, si := 0x0010 } 0x0003
      [(0x0112, 0x01), (0x0113, 0x80)]
      (six false false true false true false) = true := by decide

theorem test_R218_or_cl_bx :
    stepGives
      (launch [0x0A, 0x0F] { zeroGpr with cx := 0x0081, bx := 0x0200 } true true
        [(0x0200, 0x7F)])
      { zeroGpr with cx := 0x00FF, bx := 0x0200 } 0x0002
      [(0x0200, 0x7F)]
      (six false true true false true false) = true := by decide

theorem test_R219_or_dx_bp_di_0x0100 :
    stepGives
      (launch [0x0B, 0x93, 0x00, 0x01] { zeroGpr with dx := 0x0001, bp := 0x0300, di := 0x0004 } true true
        [(0x0404, 0xFF), (0x0405, 0xFF)])
      { zeroGpr with dx := 0xFFFF, bp := 0x0300, di := 0x0004 } 0x0004
      [(0x0404, 0xFF), (0x0405, 0xFF)]
      (six false true true false true false) = true := by decide

theorem test_R220_or_al_0x7f :
    stepGives
      (launch [0x0C, 0x7F] { zeroGpr with ax := 0x1201 } true true
        [])
      { zeroGpr with ax := 0x127F } 0x0002
      []
      (six false false true false false false) = true := by decide

theorem test_R221_or_ax_0x8000 :
    stepGives
      (launch [0x0D, 0x00, 0x80] { zeroGpr with ax := 0x8000 } true true
        [])
      { zeroGpr with ax := 0x8000 } 0x0003
      []
      (six false true true false true false) = true := by decide

theorem test_R222_adc_al_bl :
    stepGives
      (launch [0x10, 0xD8] { zeroGpr with ax := 0x12F0, bx := 0x0020 } true true
        [])
      { zeroGpr with ax := 0x1211, bx := 0x0020 } 0x0002
      []
      (six true true false false false false) = true := by decide

theorem test_R223_adc_bx_si_0x02_ax :
    stepGives
      (launch [0x11, 0x40, 0x02] { zeroGpr with ax := 0x8001, bx := 0x0100, si := 0x0010 } true true
        [(0x0112, 0x01), (0x0113, 0x80)])
      { zeroGpr with ax := 0x8001, bx := 0x0100, si := 0x0010 } 0x0003
      [(0x0112, 0x03), (0x0113, 0x00)]
      (six true true false false false true) = true := by decide

theorem test_R224_adc_cl_bx :
    stepGives
      (launch [0x12, 0x0F] { zeroGpr with cx := 0x0081, bx := 0x0200 } true true
        [(0x0200, 0x7F)])
      { zeroGpr with cx := 0x0001, bx := 0x0200 } 0x0002
      [(0x0200, 0x7F)]
      (six true false true false false false) = true := by decide

theorem test_R225_adc_dx_bp_di_0x0100 :
    stepGives
      (launch [0x13, 0x93, 0x00, 0x01] { zeroGpr with dx := 0x0001, bp := 0x0300, di := 0x0004 } true true
        [(0x0404, 0xFF), (0x0405, 0xFF)])
      { zeroGpr with dx := 0x0001, bp := 0x0300, di := 0x0004 } 0x0004
      [(0x0404, 0xFF), (0x0405, 0xFF)]
      (six true false true false false false) = true := by decide

theorem test_R226_adc_al_0x7f :
    stepGives
      (launch [0x14, 0x7F] { zeroGpr with ax := 0x1201 } true true
        [])
      { zeroGpr with ax := 0x1281 } 0x0002
      []
      (six false true true false true true) = true := by decide

theorem test_R227_adc_ax_0x8000 :
    stepGives
      (launch [0x15, 0x00, 0x80] { zeroGpr with ax := 0x8000 } true true
        [])
      { zeroGpr with ax := 0x0001 } 0x0003
      []
      (six true false false false false true) = true := by decide

theorem test_R228_sbb_al_bl :
    stepGives
      (launch [0x18, 0xD8] { zeroGpr with ax := 0x12F0, bx := 0x0020 } true true
        [])
      { zeroGpr with ax := 0x12CF, bx := 0x0020 } 0x0002
      []
      (six false true true false true false) = true := by decide

theorem test_R229_sbb_bx_si_0x02_ax :
    stepGives
      (launch [0x19, 0x40, 0x02] { zeroGpr with ax := 0x8001, bx := 0x0100, si := 0x0010 } true true
        [(0x0112, 0x01), (0x0113, 0x80)])
      { zeroGpr with ax := 0x8001, bx := 0x0100, si := 0x0010 } 0x0003
      [(0x0112, 0xFF), (0x0113, 0xFF)]
      (six true true true false true false) = true := by decide

theorem test_R230_sbb_cl_bx :
    stepGives
      (launch [0x1A, 0x0F] { zeroGpr with cx := 0x0081, bx := 0x0200 } true true
        [(0x0200, 0x7F)])
      { zeroGpr with cx := 0x0001, bx := 0x0200 } 0x0002
      [(0x0200, 0x7F)]
      (six false false true false false true) = true := by decide

theorem test_R231_sbb_dx_bp_di_0x0100 :
    stepGives
      (launch [0x1B, 0x93, 0x00, 0x01] { zeroGpr with dx := 0x0001, bp := 0x0300, di := 0x0004 } true true
        [(0x0404, 0xFF), (0x0405, 0xFF)])
      { zeroGpr with dx := 0x0001, bp := 0x0300, di := 0x0004 } 0x0004
      [(0x0404, 0xFF), (0x0405, 0xFF)]
      (six true false true false false false) = true := by decide

theorem test_R232_sbb_al_0x7f :
    stepGives
      (launch [0x1C, 0x7F] { zeroGpr with ax := 0x1201 } true true
        [])
      { zeroGpr with ax := 0x1281 } 0x0002
      []
      (six true true true false true false) = true := by decide

theorem test_R233_sbb_ax_0x8000 :
    stepGives
      (launch [0x1D, 0x00, 0x80] { zeroGpr with ax := 0x8000 } true true
        [])
      { zeroGpr with ax := 0xFFFF } 0x0003
      []
      (six true true true false true false) = true := by decide

theorem test_R234_and_al_bl :
    stepGives
      (launch [0x20, 0xD8] { zeroGpr with ax := 0x12F0, bx := 0x0020 } true true
        [])
      { zeroGpr with ax := 0x1220, bx := 0x0020 } 0x0002
      []
      (six false false true false false false) = true := by decide

theorem test_R235_and_bx_si_0x02_ax :
    stepGives
      (launch [0x21, 0x40, 0x02] { zeroGpr with ax := 0x8001, bx := 0x0100, si := 0x0010 } true true
        [(0x0112, 0x01), (0x0113, 0x80)])
      { zeroGpr with ax := 0x8001, bx := 0x0100, si := 0x0010 } 0x0003
      [(0x0112, 0x01), (0x0113, 0x80)]
      (six false false true false true false) = true := by decide

theorem test_R236_and_cl_bx :
    stepGives
      (launch [0x22, 0x0F] { zeroGpr with cx := 0x0081, bx := 0x0200 } true true
        [(0x0200, 0x7F)])
      { zeroGpr with cx := 0x0001, bx := 0x0200 } 0x0002
      [(0x0200, 0x7F)]
      (six false false true false false false) = true := by decide

theorem test_R237_and_dx_bp_di_0x0100 :
    stepGives
      (launch [0x23, 0x93, 0x00, 0x01] { zeroGpr with dx := 0x0001, bp := 0x0300, di := 0x0004 } true true
        [(0x0404, 0xFF), (0x0405, 0xFF)])
      { zeroGpr with dx := 0x0001, bp := 0x0300, di := 0x0004 } 0x0004
      [(0x0404, 0xFF), (0x0405, 0xFF)]
      (six false false true false false false) = true := by decide

theorem test_R238_and_al_0x7f :
    stepGives
      (launch [0x24, 0x7F] { zeroGpr with ax := 0x1201 } true true
        [])
      { zeroGpr with ax := 0x1201 } 0x0002
      []
      (six false false true false false false) = true := by decide

theorem test_R239_and_ax_0x8000 :
    stepGives
      (launch [0x25, 0x00, 0x80] { zeroGpr with ax := 0x8000 } true true
        [])
      { zeroGpr with ax := 0x8000 } 0x0003
      []
      (six false true true false true false) = true := by decide

theorem test_R240_sub_al_bl :
    stepGives
      (launch [0x28, 0xD8] { zeroGpr with ax := 0x12F0, bx := 0x0020 } true true
        [])
      { zeroGpr with ax := 0x12D0, bx := 0x0020 } 0x0002
      []
      (six false false false false true false) = true := by decide

theorem test_R241_sub_bx_si_0x02_ax :
    stepGives
      (launch [0x29, 0x40, 0x02] { zeroGpr with ax := 0x8001, bx := 0x0100, si := 0x0010 } true true
        [(0x0112, 0x01), (0x0113, 0x80)])
      { zeroGpr with ax := 0x8001, bx := 0x0100, si := 0x0010 } 0x0003
      [(0x0112, 0x00), (0x0113, 0x00)]
      (six false true false true false false) = true := by decide

theorem test_R242_sub_cl_bx :
    stepGives
      (launch [0x2A, 0x0F] { zeroGpr with cx := 0x0081, bx := 0x0200 } true true
        [(0x0200, 0x7F)])
      { zeroGpr with cx := 0x0002, bx := 0x0200 } 0x0002
      [(0x0200, 0x7F)]
      (six false false true false false true) = true := by decide

theorem test_R243_sub_dx_bp_di_0x0100 :
    stepGives
      (launch [0x2B, 0x93, 0x00, 0x01] { zeroGpr with dx := 0x0001, bp := 0x0300, di := 0x0004 } true true
        [(0x0404, 0xFF), (0x0405, 0xFF)])
      { zeroGpr with dx := 0x0002, bp := 0x0300, di := 0x0004 } 0x0004
      [(0x0404, 0xFF), (0x0405, 0xFF)]
      (six true false true false false false) = true := by decide

theorem test_R244_sub_al_0x7f :
    stepGives
      (launch [0x2C, 0x7F] { zeroGpr with ax := 0x1201 } true true
        [])
      { zeroGpr with ax := 0x1282 } 0x0002
      []
      (six true true true false true false) = true := by decide

theorem test_R245_sub_ax_0x8000 :
    stepGives
      (launch [0x2D, 0x00, 0x80] { zeroGpr with ax := 0x8000 } true true
        [])
      { zeroGpr with ax := 0x0000 } 0x0003
      []
      (six false true false true false false) = true := by decide

theorem test_R246_xor_al_bl :
    stepGives
      (launch [0x30, 0xD8] { zeroGpr with ax := 0x12F0, bx := 0x0020 } true true
        [])
      { zeroGpr with ax := 0x12D0, bx := 0x0020 } 0x0002
      []
      (six false false true false true false) = true := by decide

theorem test_R247_xor_bx_si_0x02_ax :
    stepGives
      (launch [0x31, 0x40, 0x02] { zeroGpr with ax := 0x8001, bx := 0x0100, si := 0x0010 } true true
        [(0x0112, 0x01), (0x0113, 0x80)])
      { zeroGpr with ax := 0x8001, bx := 0x0100, si := 0x0010 } 0x0003
      [(0x0112, 0x00), (0x0113, 0x00)]
      (six false true true true false false) = true := by decide

theorem test_R248_xor_cl_bx :
    stepGives
      (launch [0x32, 0x0F] { zeroGpr with cx := 0x0081, bx := 0x0200 } true true
        [(0x0200, 0x7F)])
      { zeroGpr with cx := 0x00FE, bx := 0x0200 } 0x0002
      [(0x0200, 0x7F)]
      (six false false true false true false) = true := by decide

theorem test_R249_xor_dx_bp_di_0x0100 :
    stepGives
      (launch [0x33, 0x93, 0x00, 0x01] { zeroGpr with dx := 0x0001, bp := 0x0300, di := 0x0004 } true true
        [(0x0404, 0xFF), (0x0405, 0xFF)])
      { zeroGpr with dx := 0xFFFE, bp := 0x0300, di := 0x0004 } 0x0004
      [(0x0404, 0xFF), (0x0405, 0xFF)]
      (six false false true false true false) = true := by decide

theorem test_R250_xor_al_0x7f :
    stepGives
      (launch [0x34, 0x7F] { zeroGpr with ax := 0x1201 } true true
        [])
      { zeroGpr with ax := 0x127E } 0x0002
      []
      (six false true true false false false) = true := by decide

theorem test_R251_xor_ax_0x8000 :
    stepGives
      (launch [0x35, 0x00, 0x80] { zeroGpr with ax := 0x8000 } true true
        [])
      { zeroGpr with ax := 0x0000 } 0x0003
      []
      (six false true true true false false) = true := by decide

theorem test_R252_cmp_al_bl :
    stepGives
      (launch [0x38, 0xD8] { zeroGpr with ax := 0x12F0, bx := 0x0020 } true true
        [])
      { zeroGpr with ax := 0x12F0, bx := 0x0020 } 0x0002
      []
      (six false false false false true false) = true := by decide

theorem test_R253_cmp_bx_si_0x02_ax :
    stepGives
      (launch [0x39, 0x40, 0x02] { zeroGpr with ax := 0x8001, bx := 0x0100, si := 0x0010 } true true
        [(0x0112, 0x01), (0x0113, 0x80)])
      { zeroGpr with ax := 0x8001, bx := 0x0100, si := 0x0010 } 0x0003
      [(0x0112, 0x01), (0x0113, 0x80)]
      (six false true false true false false) = true := by decide

theorem test_R254_cmp_cl_bx :
    stepGives
      (launch [0x3A, 0x0F] { zeroGpr with cx := 0x0081, bx := 0x0200 } true true
        [(0x0200, 0x7F)])
      { zeroGpr with cx := 0x0081, bx := 0x0200 } 0x0002
      [(0x0200, 0x7F)]
      (six false false true false false true) = true := by decide

theorem test_R255_cmp_dx_bp_di_0x0100 :
    stepGives
      (launch [0x3B, 0x93, 0x00, 0x01] { zeroGpr with dx := 0x0001, bp := 0x0300, di := 0x0004 } true true
        [(0x0404, 0xFF), (0x0405, 0xFF)])
      { zeroGpr with dx := 0x0001, bp := 0x0300, di := 0x0004 } 0x0004
      [(0x0404, 0xFF), (0x0405, 0xFF)]
      (six true false true false false false) = true := by decide

theorem test_R256_cmp_al_0x7f :
    stepGives
      (launch [0x3C, 0x7F] { zeroGpr with ax := 0x1201 } true true
        [])
      { zeroGpr with ax := 0x1201 } 0x0002
      []
      (six true true true false true false) = true := by decide

theorem test_R257_cmp_ax_0x8000 :
    stepGives
      (launch [0x3D, 0x00, 0x80] { zeroGpr with ax := 0x8000 } true true
        [])
      { zeroGpr with ax := 0x8000 } 0x0003
      []
      (six false true false true false false) = true := by decide

theorem test_R302_inc_ax :
    stepGives
      (launch [0x40] { zeroGpr with ax := 0x7FFF } true false
        [])
      { zeroGpr with ax := 0x8000 } 0x0001
      []
      (six true true true false true true) = true := by decide

theorem test_R303_inc_cx :
    stepGives
      (launch [0x41] { zeroGpr with cx := 0x7FFF } true false
        [])
      { zeroGpr with cx := 0x8000 } 0x0001
      []
      (six true true true false true true) = true := by decide

theorem test_R304_inc_dx :
    stepGives
      (launch [0x42] { zeroGpr with dx := 0x7FFF } true false
        [])
      { zeroGpr with dx := 0x8000 } 0x0001
      []
      (six true true true false true true) = true := by decide

theorem test_R305_inc_bx :
    stepGives
      (launch [0x43] { zeroGpr with bx := 0x7FFF } true false
        [])
      { zeroGpr with bx := 0x8000 } 0x0001
      []
      (six true true true false true true) = true := by decide

theorem test_R306_inc_sp :
    stepGives
      (launch [0x44] { zeroGpr with sp := 0x7FFF } true false
        [])
      { zeroGpr with sp := 0x8000 } 0x0001
      []
      (six true true true false true true) = true := by decide

theorem test_R307_inc_bp :
    stepGives
      (launch [0x45] { zeroGpr with bp := 0x7FFF } true false
        [])
      { zeroGpr with bp := 0x8000 } 0x0001
      []
      (six true true true false true true) = true := by decide

theorem test_R308_inc_si :
    stepGives
      (launch [0x46] { zeroGpr with si := 0x7FFF } true false
        [])
      { zeroGpr with si := 0x8000 } 0x0001
      []
      (six true true true false true true) = true := by decide

theorem test_R309_inc_di :
    stepGives
      (launch [0x47] { zeroGpr with di := 0x7FFF } true false
        [])
      { zeroGpr with di := 0x8000 } 0x0001
      []
      (six true true true false true true) = true := by decide

theorem test_R310_dec_ax :
    stepGives
      (launch [0x48] { zeroGpr with ax := 0x8000 } true false
        [])
      { zeroGpr with ax := 0x7FFF } 0x0001
      []
      (six true true true false false true) = true := by decide

theorem test_R311_dec_cx :
    stepGives
      (launch [0x49] { zeroGpr with cx := 0x8000 } true false
        [])
      { zeroGpr with cx := 0x7FFF } 0x0001
      []
      (six true true true false false true) = true := by decide

theorem test_R312_dec_dx :
    stepGives
      (launch [0x4A] { zeroGpr with dx := 0x8000 } true false
        [])
      { zeroGpr with dx := 0x7FFF } 0x0001
      []
      (six true true true false false true) = true := by decide

theorem test_R313_dec_bx :
    stepGives
      (launch [0x4B] { zeroGpr with bx := 0x8000 } true false
        [])
      { zeroGpr with bx := 0x7FFF } 0x0001
      []
      (six true true true false false true) = true := by decide

theorem test_R314_dec_sp :
    stepGives
      (launch [0x4C] { zeroGpr with sp := 0x8000 } true false
        [])
      { zeroGpr with sp := 0x7FFF } 0x0001
      []
      (six true true true false false true) = true := by decide

theorem test_R315_dec_bp :
    stepGives
      (launch [0x4D] { zeroGpr with bp := 0x8000 } true false
        [])
      { zeroGpr with bp := 0x7FFF } 0x0001
      []
      (six true true true false false true) = true := by decide

theorem test_R316_dec_si :
    stepGives
      (launch [0x4E] { zeroGpr with si := 0x8000 } true false
        [])
      { zeroGpr with si := 0x7FFF } 0x0001
      []
      (six true true true false false true) = true := by decide

theorem test_R317_dec_di :
    stepGives
      (launch [0x4F] { zeroGpr with di := 0x8000 } true false
        [])
      { zeroGpr with di := 0x7FFF } 0x0001
      []
      (six true true true false false true) = true := by decide

theorem test_R318_push_ax :
    stepGives
      (launch [0x50] { zeroGpr with ax := 0x1234, sp := 0x0100 } true false
        [])
      { zeroGpr with ax := 0x1234, sp := 0x00FE } 0x0001
      [(0x00FE, 0x34), (0x00FF, 0x12)]
      (six true false false false false false) = true := by decide

theorem test_R319_push_cx :
    stepGives
      (launch [0x51] { zeroGpr with cx := 0x1234, sp := 0x0100 } true false
        [])
      { zeroGpr with cx := 0x1234, sp := 0x00FE } 0x0001
      [(0x00FE, 0x34), (0x00FF, 0x12)]
      (six true false false false false false) = true := by decide

theorem test_R320_push_dx :
    stepGives
      (launch [0x52] { zeroGpr with dx := 0x1234, sp := 0x0100 } true false
        [])
      { zeroGpr with dx := 0x1234, sp := 0x00FE } 0x0001
      [(0x00FE, 0x34), (0x00FF, 0x12)]
      (six true false false false false false) = true := by decide

theorem test_R321_push_bx :
    stepGives
      (launch [0x53] { zeroGpr with bx := 0x1234, sp := 0x0100 } true false
        [])
      { zeroGpr with bx := 0x1234, sp := 0x00FE } 0x0001
      [(0x00FE, 0x34), (0x00FF, 0x12)]
      (six true false false false false false) = true := by decide

theorem test_R322_push_sp :
    stepGives
      (launch [0x54] { zeroGpr with sp := 0x0100 } true false
        [])
      { zeroGpr with sp := 0x00FE } 0x0001
      [(0x00FE, 0xFE)]
      (six true false false false false false) = true := by decide

theorem test_R323_push_bp :
    stepGives
      (launch [0x55] { zeroGpr with sp := 0x0100, bp := 0x1234 } true false
        [])
      { zeroGpr with sp := 0x00FE, bp := 0x1234 } 0x0001
      [(0x00FE, 0x34), (0x00FF, 0x12)]
      (six true false false false false false) = true := by decide

theorem test_R324_push_si :
    stepGives
      (launch [0x56] { zeroGpr with sp := 0x0100, si := 0x1234 } true false
        [])
      { zeroGpr with sp := 0x00FE, si := 0x1234 } 0x0001
      [(0x00FE, 0x34), (0x00FF, 0x12)]
      (six true false false false false false) = true := by decide

theorem test_R325_push_di :
    stepGives
      (launch [0x57] { zeroGpr with sp := 0x0100, di := 0x1234 } true false
        [])
      { zeroGpr with sp := 0x00FE, di := 0x1234 } 0x0001
      [(0x00FE, 0x34), (0x00FF, 0x12)]
      (six true false false false false false) = true := by decide

theorem test_R326_pop_ax :
    stepGives
      (launch [0x58] { zeroGpr with sp := 0x00FE } true false
        [(0x00FE, 0x78), (0x00FF, 0x56)])
      { zeroGpr with ax := 0x5678, sp := 0x0100 } 0x0001
      [(0x00FE, 0x78), (0x00FF, 0x56)]
      (six true false false false false false) = true := by decide

theorem test_R327_pop_cx :
    stepGives
      (launch [0x59] { zeroGpr with sp := 0x00FE } true false
        [(0x00FE, 0x78), (0x00FF, 0x56)])
      { zeroGpr with cx := 0x5678, sp := 0x0100 } 0x0001
      [(0x00FE, 0x78), (0x00FF, 0x56)]
      (six true false false false false false) = true := by decide

theorem test_R328_pop_dx :
    stepGives
      (launch [0x5A] { zeroGpr with sp := 0x00FE } true false
        [(0x00FE, 0x78), (0x00FF, 0x56)])
      { zeroGpr with dx := 0x5678, sp := 0x0100 } 0x0001
      [(0x00FE, 0x78), (0x00FF, 0x56)]
      (six true false false false false false) = true := by decide

theorem test_R329_pop_bx :
    stepGives
      (launch [0x5B] { zeroGpr with sp := 0x00FE } true false
        [(0x00FE, 0x78), (0x00FF, 0x56)])
      { zeroGpr with bx := 0x5678, sp := 0x0100 } 0x0001
      [(0x00FE, 0x78), (0x00FF, 0x56)]
      (six true false false false false false) = true := by decide

theorem test_R330_pop_sp :
    stepGives
      (launch [0x5C] { zeroGpr with sp := 0x00FE } true false
        [(0x00FE, 0x78), (0x00FF, 0x56)])
      { zeroGpr with sp := 0x5678 } 0x0001
      [(0x00FE, 0x78), (0x00FF, 0x56)]
      (six true false false false false false) = true := by decide

theorem test_R331_pop_bp :
    stepGives
      (launch [0x5D] { zeroGpr with sp := 0x00FE } true false
        [(0x00FE, 0x78), (0x00FF, 0x56)])
      { zeroGpr with sp := 0x0100, bp := 0x5678 } 0x0001
      [(0x00FE, 0x78), (0x00FF, 0x56)]
      (six true false false false false false) = true := by decide

theorem test_R332_pop_si :
    stepGives
      (launch [0x5E] { zeroGpr with sp := 0x00FE } true false
        [(0x00FE, 0x78), (0x00FF, 0x56)])
      { zeroGpr with sp := 0x0100, si := 0x5678 } 0x0001
      [(0x00FE, 0x78), (0x00FF, 0x56)]
      (six true false false false false false) = true := by decide

theorem test_R333_pop_di :
    stepGives
      (launch [0x5F] { zeroGpr with sp := 0x00FE } true false
        [(0x00FE, 0x78), (0x00FF, 0x56)])
      { zeroGpr with sp := 0x0100, di := 0x5678 } 0x0001
      [(0x00FE, 0x78), (0x00FF, 0x56)]
      (six true false false false false false) = true := by decide

/-! ### Memory (95 L2-MEM, L1-2) -/

/-- L2-MEM-1: the word 0xBEEF at 0x1000. -/
def beef : State := State.reset.storeWord 0x1000 0xBEEF

theorem test_mem_1 : memWrite16 State.reset 0x1000 0xBEEF = .ok beef ∧ beef.mem = [(0x1000, 0xEF), (0x1001, 0xBE)] := by
  decide
theorem test_mem_2 : memRead8 beef 0x1001 = .ok 0xBE := by decide
theorem test_mem_3 : memRead16 (beef.storeByte 0x1002 0x11) 0x1001 = .ok 0x11BE := by decide
theorem test_mem_4 : memRead16 (State.reset.storeByte 0xFFFF 0x77) 0xFFFF = .error (.outOfBounds 0xFFFF) := by decide
theorem test_mem_5 : memRead8 (State.reset.storeByte 0xFFFF 0x77) 0xFFFF = .ok 0x77 := by decide
theorem test_mem_6 : memWrite16 (State.reset.storeByte 0xFFFF 0x77) 0xFFFF 0x1234 = .error (.outOfBounds 0xFFFF) := by
  decide
theorem test_mem_7 : memRead8 State.reset 0x10000 = .error (.outOfBounds 0x10000) := by decide
theorem test_mem_8 : memRead8 (withMemSize 0x100 (State.reset.storeByte 0xFF 0x42)) 0xFF = .ok 0x42 ∧
    memRead8 (withMemSize 0x100 State.reset) 0x100 = .error (.outOfBounds 0x100) := by decide
/-- Writing what an unlisted address reads as leaves no entry (log entry 8). -/
theorem test_mem_canonical : (beef.storeByte 0x1000 0x00).mem = [(0x1001, 0xBE)] := by decide

/-! ### Registers (95 L2-REG, L1-4) -/

theorem test_reg_1 : ((State.reset.setR16 .ax 0x1234).setR8 .al 0xFF).gpr.ax = 0x12FF := by decide
theorem test_reg_2 : ((State.reset.setR16 .ax 0x1234).setR8 .ah 0xFF).gpr = { zeroGpr with ax := 0xFF34 } := by decide
theorem test_reg_3 : gpr8ById (State.reset.setR16 .dx 0xABCD) 2 = .ok 0xCD ∧
    gpr8ById (State.reset.setR16 .dx 0xABCD) 6 = .ok 0xAB := by decide
theorem test_reg_4 : (List.range 8).map (gpr16ById
    { State.reset with gpr := { zeroGpr with sp := 0x1111, bp := 0x2222, si := 0x3333, di := 0x4444 } }) =
      [.ok 0, .ok 0, .ok 0, .ok 0, .ok 0x1111, .ok 0x2222, .ok 0x3333, .ok 0x4444] := by decide
theorem test_reg_5 : segById State.reset 4 = .error (.invalidOperandEncoding 4) := by decide
/-- The sets by id (10_state.md R20, R23, R24, R26): the last id of each class, and one past it. -/
theorem test_reg_set : setGpr16ById State.reset 7 0xBEEF = .ok (State.reset.setR16 .di 0xBEEF) ∧
    setGpr8ById (State.reset.setR16 .bx 0x1234) 7 0x56 = .ok (State.reset.setR16 .bx 0x5634) ∧
    setSegById State.reset 3 0x0100 =
      .ok { State.reset with seg := { es := 0, cs := 0, ss := 0, ds := 0x0100 } } ∧
    setSegById State.reset 4 0x0100 = .error (.invalidOperandEncoding 4) := ⟨rfl, rfl, rfl, rfl⟩
theorem test_reg_bl_bh : ((State.reset.setR8 .bl 0x12).setR8 .bh 0x34).gpr.bx = 0x3412 := by decide
theorem test_reg_ch : ((State.reset.setR16 .cx 0xBEEF).setR8 .ch 0x00).gpr.cx = 0x00EF := by decide

/-- The flags register's word (10_state.md R32): CF is bit 0 and OF bit 11. -/
theorem test_flags_word : (six true false false true false true).toWord = 0x0841 := by decide

/-! ### The operand resolver (95 L2-RES): the location and the IP after `31 <mode byte> <disp>` -/

def resGpr : Gpr := { zeroGpr with bx := 0x1000, bp := 0x2000, si := 0x0030, di := 0x0004 }

def resolvesTo (s : State) (mode : List Byte) (loc : Loc16) (ip : Word) : Bool :=
  match decode s.params.mod00Rm110 (0x31 :: mode) with
  | .ok (.xorRm16R16 rm _) => decide (resolve16 s rm = loc) && decide (s.ip + BitVec.ofNat 16 (rmLength16 rm) = ip)
  | _ => false

def resState (a : DataAddressing) (m : Mod00Rm110) : State :=
  { State.reset with
    gpr := resGpr
    seg := { State.reset.seg with ds := 0x0100, ss := 0x0200 }
    params := { State.reset.params with dataAddressing := a, mod00Rm110 := m } }

theorem test_res_1_to_8 : [([0x00], 0x1030), ([0x01], 0x1004), ([0x02], 0x2030), ([0x03], 0x2004), ([0x04], 0x0030),
    ([0x05], 0x0004), ([0x06], 0x2000), ([0x07], 0x1000)].all (fun r =>
      resolvesTo (resState .flat .bpIndirect) r.1 (.mem r.2) 0x0002) = true := by decide
theorem test_res_9_10 : resolvesTo (resState .flat .bpIndirect) [0x40, 0x80] (.mem 0x10B0) 0x0003 = true ∧
    resolvesTo (resState .flat .bpIndirect) [0x47, 0xFF] (.mem 0x10FF) 0x0003 = true := by decide
theorem test_res_11_12 : resolvesTo (resState .flat .bpIndirect) [0x80, 0x34, 0x12] (.mem 0x2264) 0x0004 = true ∧
    resolvesTo (resState .flat .bpIndirect) [0x86, 0xFF, 0xFF] (.mem 0x1FFF) 0x0004 = true := by decide
theorem test_res_13 : resolvesTo ((State.reset.setR16 .bx 0xFFFF).setR16 .si 0x0002) [0x00] (.mem 0x0001) 0x0002 =
    true := by decide
theorem test_res_14_15 : resolvesTo (resState .flat .bpIndirect) [0xC0] (.reg .ax) 0x0002 = true ∧
    resolvesTo (resState .flat .bpIndirect) [0xC7] (.reg .di) 0x0002 = true := by decide
theorem test_res_16 : resolvesTo (resState .flat .directDisp16) [0x06, 0x34, 0x12] (.mem 0x1234) 0x0004 = true := by
  decide
theorem test_res_17_18 : resolvesTo (resState .segmented .bpIndirect) [0x00] (.mem 0x2030) 0x0002 = true ∧
    resolvesTo (resState .segmented .bpIndirect) [0x06] (.mem 0x4000) 0x0002 = true := by decide
/-- The direct address lies in the data segment (40_operand_resolver.md R106). -/
theorem test_res_direct_segmented :
    resolvesTo (resState .segmented .directDisp16) [0x06, 0x34, 0x12] (.mem 0x2234) 0x0004 = true := by decide

/-! ### The ALU (95 L2-ALU) -/

/-- The six flags written, in the order CF PF AF ZF SF OF; `none` for one left alone. -/
def written (u : FlagWrite) : List (Option Bool) := [u.cf, u.pf, u.af, u.zf, u.sf, u.of_]

def bits (l : List Nat) : List (Option Bool) := l.map fun n => if n = 2 then none else some (n == 1)

def aluGives {w : Nat} (p : BitVec w × FlagWrite) (r : BitVec w) (f : List Nat) : Bool :=
  decide (p.1 = r ∧ written p.2 = bits f)

theorem test_add16 : aluGives (addW (0xFFFF : Word) 1) 0 [1, 1, 1, 1, 0, 0] ∧
    aluGives (addW (0x7FFF : Word) 1) 0x8000 [0, 1, 1, 0, 1, 1] ∧
    aluGives (addW (0x8000 : Word) 0x8000) 0 [1, 1, 0, 1, 0, 1] ∧
    aluGives (addW (0x000F : Word) 1) 0x10 [0, 0, 1, 0, 0, 0] := by decide
theorem test_sub16 : aluGives (subW (0 : Word) 1) 0xFFFF [1, 1, 1, 0, 1, 0] ∧
    aluGives (subW (0x8000 : Word) 1) 0x7FFF [0, 1, 1, 0, 0, 1] ∧
    aluGives (subW (0x7FFF : Word) 0xFFFF) 0x8000 [1, 1, 0, 0, 1, 1] ∧
    aluGives (subW (0x1234 : Word) 0x1234) 0 [0, 1, 0, 1, 0, 0] := by decide
theorem test_logic16 : aluGives (andW (0xAAFF : Word) 0xBBBB) 0xAABB [0, 1, 2, 0, 1, 0] ∧
    aluGives (orW (0x00F0 : Word) 0x0F00) 0x0FF0 [0, 1, 2, 0, 0, 0] ∧
    aluGives (xorW (0xAAFF : Word) 0xBBBB) 0x1144 [0, 1, 2, 0, 0, 0] := by decide
theorem test_add8_sub8 : aluGives (addW (0x7F : Byte) 1) 0x80 [0, 0, 1, 0, 1, 1] ∧
    aluGives (addW (0x80 : Byte) 0x80) 0 [1, 1, 0, 1, 0, 1] ∧
    aluGives (subW (0x80 : Byte) 1) 0x7F [0, 0, 1, 0, 0, 1] ∧
    aluGives (xorW (0x80 : Byte) 1) 0x81 [0, 1, 2, 0, 1, 0] := by decide
theorem test_adc16 : aluGives (adcW (0xFFFF : Word) 0 true) 0 [1, 1, 1, 1, 0, 0] ∧
    aluGives (adcW (0x7FFF : Word) 0 true) 0x8000 [0, 1, 1, 0, 1, 1] ∧
    aluGives (adcW (0xFFFF : Word) 0xFFFF true) 0xFFFF [1, 1, 1, 0, 1, 0] := by decide
theorem test_sbb16 : aluGives (sbbW (0 : Word) 0xFFFF true) 0 [1, 1, 1, 1, 0, 0] ∧
    aluGives (sbbW (0 : Word) 0 true) 0xFFFF [1, 1, 1, 0, 1, 0] ∧
    aluGives (sbbW (0x8000 : Word) 0 true) 0x7FFF [0, 1, 1, 0, 0, 1] := by decide
theorem test_incdec16 : aluGives (inc16 0xFFFF) 0 [2, 1, 1, 1, 0, 0] ∧ aluGives (inc16 0x000F) 0x10 [2, 0, 1, 0, 0, 0] ∧
    aluGives (dec16 0) 0xFFFF [2, 1, 1, 0, 1, 0] := by decide
/-- L1-8: two rows of the parity table, high nibbles 0 and 7. -/
theorem test_parity : ((List.range 16).map fun n => (parity (BitVec.ofNat 8 n)).toNat) =
      [1, 0, 0, 1, 0, 1, 1, 0, 0, 1, 1, 0, 1, 0, 0, 1] ∧
    ((List.range 16).map fun n => (parity (BitVec.ofNat 8 (0x70 + n))).toNat) =
      [0, 1, 1, 0, 1, 0, 0, 1, 1, 0, 0, 1, 0, 1, 1, 0] := by decide

/-! ### Corner vectors (95 L2-SET, L2-PALU, L2-STK) -/

theorem test_set_1 : stepGives (launch [0x31, 0xD8] { zeroGpr with ax := 0xAAFF, bx := 0xBBBB } true true [])
    { zeroGpr with ax := 0x1144, bx := 0xBBBB } 2 [] (six false true true false false false) = true := by decide
theorem test_set_8 : stepGives
    (launch [0x21, 0x93, 0x00, 0x10] { zeroGpr with dx := 0x5A5A, bp := 0x0300, di := 0x0001 } false false
      [(0x1301, 0xFF), (0x1302, 0xFF)])
    { zeroGpr with dx := 0x5A5A, bp := 0x0300, di := 0x0001 } 4 [(0x1301, 0x5A), (0x1302, 0x5A)]
    (six false true false false false false) = true := by decide
theorem test_set_11 : step (launch [0x31, 0x07] { zeroGpr with bx := 0xFFFF, ax := 0x1111 } true false []) =
    .next { launch [0x31, 0x07] { zeroGpr with bx := 0xFFFF, ax := 0x1111 } true false [] with
      error := some (.outOfBounds 0xFFFF) } := by rfl
theorem test_set_12 : after (atIp (State.reset.storeByte 5 0xF4) 5) (fun t => (t.ip, t.halted, t.haltReason)) =
    some (6, true, some .hlt) := by decide
theorem test_set_13 : after (atIp (State.reset.storeByte 0xFFFF 0xF4) 0xFFFF) (fun t => (t.ip, t.halted)) =
    some (0, true) := by decide
theorem test_palu_6 : stepGives (launch [0x30, 0xC4] { zeroGpr with ax := 0x0FF0 } false false [])
    { zeroGpr with ax := 0xFFF0 } 2 [] (six false true false false true false) = true := by decide
theorem test_palu_10 : stepGives
    (launch [0x29, 0x07] { zeroGpr with ax := 0x0001, bx := 0x1FFF } false false [(0x2000, 0x01)])
    { zeroGpr with ax := 0x0001, bx := 0x1FFF } 2 [(0x1FFF, 0xFF), (0x2000, 0x00)]
    (six false true true false false false) = true := by decide
theorem test_stk_9 : stepGives (launch [0x50] { zeroGpr with ax := 0xABCD, sp := 0x0003 } false false [])
    { zeroGpr with ax := 0xABCD, sp := 0x0001 } 1 [(0x0001, 0xCD), (0x0002, 0xAB)]
    (six false false false false false false) = true := by decide
theorem test_stk_10 : stepGives (launch [0x50] { zeroGpr with ax := 0xABCD } false false [])
    { zeroGpr with ax := 0xABCD, sp := 0xFFFE } 1 [(0xFFFE, 0xCD), (0xFFFF, 0xAB)]
    (six false false false false false false) = true := by decide
theorem test_stk_11 : after (withMemSize 0x8000 (launch [0x50] { zeroGpr with ax := 0xABCD } false false []))
    (fun t => (t.error, t.gpr.sp, t.ip)) = some (some (.outOfBounds 0xFFFE), 0, 0) := by decide
theorem test_stk_12 : after (launch [0x58] { zeroGpr with sp := 0xFFFF } false false [])
    (fun t => (t.error, t.gpr.sp, t.ip)) = some (some (.outOfBounds 0xFFFF), 0xFFFF, 0) := by decide

/-! ### The engine (95 L1-2, L1-3, L2-ENG) -/

def underRefuse (s : State) : State := { s with params := { s.params with provisionalPolicy := .refuse } }

theorem test_unimplemented_daa : after (launch [0x27] { zeroGpr with ax := 0x1234 } true false [])
    (fun t => (t.gpr.ax, t.flags.cf, t.ip, t.haltReason)) =
      some (0x1234, true, 0, some (.unimplementedOpcode 0x27)) := by decide
theorem test_fetch_outOfBounds :
    after { State.reset with seg := { State.reset.seg with cs := 0x0FFF }, ip := 0x0010 } (fun t => (t.error, t.ip)) =
      some (some (.outOfBounds 0x10000), 0x0010) := by decide
theorem test_eng_1 : after (launch [0x2E, 0xF4] zeroGpr false false []) (fun t => (t.haltReason, t.ip)) =
    some (some (.unimplementedOpcode 0x2E), 0) := by decide
theorem test_eng_3 : step (launch [0x80, 0xC0, 0x01] zeroGpr false false []) = .refused (.unsettledOpcode 0x80) := by rfl
theorem test_eng_4 : step (underRefuse (launch [0x40] zeroGpr false false [])) = .refused (.provisionalOpcode 0x40) := by
  rfl
theorem test_settled_under_refuse : after (underRefuse (launch [0x31, 0xDB] zeroGpr false false []))
    (fun t => (t.ip, t.flags.zf)) = some (2, true) := by decide
theorem test_eng_5 : step (atIp (State.reset.storeByte 0xFFFF 0x31) 0xFFFF) =
    .refused (.instructionCrossesSegmentEnd 0xFFFF 1) := by rfl
theorem test_eng_6 : after (atIp (withMemSize 0x100
      (((State.reset.storeByte 0xFE 0x31).storeByte 0xFF 0xD8).setR16 .ax 1 |>.setR16 .bx 3)) 0xFE)
    (fun t => (t.gpr.ax, t.ip, t.error)) = some (2, 0x100, none) := by decide
theorem test_eng_7 : after (atIp (withMemSize 0x100 (State.reset.storeByte 0xFF 0x31)) 0xFF)
    (fun t => (t.error, t.ip)) = some (some (.outOfBounds 0x100), 0xFF) := by decide
theorem test_eng_8 : after (atIp (placeBytes ((State.reset.setR16 .ax 5).setR16 .bx 3) 0xFFFE [0x31, 0xD8]) 0xFFFE)
    (fun t => (t.gpr.ax, t.ip)) = some (6, 0) := by decide
theorem test_eng_9 : run 0 State.reset = (.stepLimitReached, State.reset) := by rfl
theorem test_eng_11 : (run 1 (launch [0xF4] zeroGpr false false [])).1 = .halted (some .hlt) := by rfl

/-- The fetch entry points of the host agree with the decoder and the step, on one word of each shape (log entry 23). -/
theorem test_fetch_words : decodeTableWord 16 0xD831 = some (.xorRm16R16 (.reg .ax) .bx) ∧
    decodeTableWord 8 0x05 = some (.addAxImm16 0) ∧ decodeTableWord 8 0x27 = some .daa := by decide
theorem test_withFetchWord : after (State.reset.withFetchWord 8 0xF4) (fun t => t.haltReason) = some (some .hlt) := by
  decide

/-! ### Witnesses: each statement's hypotheses are met -/

theorem holds_of_all {s : State} {a : Nat} {bytes : List Byte}
    (h : ∀ k < bytes.length, bytes[k]? = some (s.byteAt (a + k))) : s.Holds a bytes := by
  intro k b hb
  have hk := (List.getElem?_eq_some_iff.mp hb).1
  rw [h k hk] at hb
  exact Option.some.inj hb

/-- A step that completes: `31 D8` in the last two bytes below offset 0x10000. -/
def lastTwo : State := atIp (placeBytes State.reset 0xFFFE [0x31, 0xD8]) 0xFFFE

/-- A halted and an errored machine. -/
def haltedState : State := State.reset.halt .hlt
def erroredState : State := State.reset.raiseError (.outOfBounds 0x10000)

theorem witness_ByteRegisterWriteChangesOnlyItsHalf : Reg8.ah ≠ Reg8.al ∧ Reg16.sp ≠ Reg8.parent .ah := by decide
theorem witness_WordRegisterWriteSetsBothHalves : Reg8.parent .bl = .bx ∧ Reg8.parent .bh = .bx ∧
    Reg8.isHigh .bl = false ∧ Reg8.isHigh .bh = true ∧ Reg16.di ≠ .bx := by decide
theorem witness_PointerRegistersHaveNoByteAccess : Reg16.sp ∈ [Reg16.sp, .bp, .si, .di] ∧
    Reg16.di ∈ [Reg16.sp, .bp, .si, .di] := by decide
theorem witness_InvalidIdsRaiseAndNoStepDoes : 8 ≤ 8 ∧ 4 ≤ 4 ∧ 7 < 8 ∧ ∃ t, step lastTwo = .next t :=
  ⟨by decide, by decide, by decide, _, rfl⟩
theorem witness_PhysicalIpIsDerivedFromCsAndIp : (State.reset.setR16 .ax 1).seg.cs = State.reset.seg.cs ∧
    (State.reset.setR16 .ax 1).ip = State.reset.ip ∧ State.reset.setR16 .ax 1 ≠ State.reset := by decide
theorem witness_MemoryWritesChangeTheirBytes : Memory.wf State.reset.mem = true ∧
    0x10000 ≥ State.reset.params.memSize ∧ 0xFFFF < State.reset.params.memSize ∧
    0xFFFF + 1 ≥ State.reset.params.memSize ∧ 0xFFFE + 1 < State.reset.params.memSize ∧ (0 : Nat) ≠ 0xFFFF := by decide
theorem witness_MixedWidthAccessesAreLittleEndian : Memory.wf State.reset.mem = true ∧
    (∃ t, memWrite16 State.reset 0xFFFE 0x1234 = .ok t) ∧
    ∃ t u, memWrite8 State.reset 0xFFFE 0x34 = .ok t ∧ memWrite8 t 0xFFFF 0x12 = .ok u :=
  ⟨by decide, ⟨_, rfl⟩, _, _, rfl, rfl⟩
theorem witness_StoredBytesAreFetched : Memory.wf lastTwo.mem = true ∧ lastTwo.ip.toNat + 1 ≤ 0xFFFF ∧
    (∃ t, memWrite8 lastTwo (lastTwo.physIp + 1) 0xF4 = .ok t) ∧
    ∃ a, a + 1 = lastTwo.physIp + 1 ∧ ∃ t, memWrite16 lastTwo a 0xF4F4 = .ok t :=
  ⟨by decide, by decide, ⟨_, rfl⟩, lastTwo.physIp, rfl, _, rfl⟩
/-- The clause on a word store that starts at the instruction byte. -/
theorem witness_StoredBytesAreFetched_low : Memory.wf lastTwo.mem = true ∧ lastTwo.ip.toNat + 0 ≤ 0xFFFF ∧
    ∃ t, memWrite16 lastTwo (lastTwo.physIp + 0) 0xF4F4 = .ok t := ⟨by decide, by decide, _, rfl⟩
theorem witness_DataAndStackAddresses : State.reset.params.dataAddressing = .flat ∧
    (resState .segmented .bpIndirect).params.dataAddressing = .segmented ∧ Base.bp ∈ [Base.bpSi, .bpDi, .bp] ∧
    Base.bx ∈ [Base.bxSi, .bxDi, .si, .di, .bx] ∧ ∃ d : Byte, MemOperand.disp8 .bp 0xFF = .disp8 .bp d :=
  ⟨rfl, rfl, by decide, by decide, _, rfl⟩
theorem witness_LocationRoundTrip : ∃ s : State, Memory.wf s.mem = true ∧
    (resolve8 s (.mem (.plain .bx))).inBounds s = true ∧ (resolve8 s (.reg .bh)).inBounds s = true ∧
    (resolve16 s (.mem (.plain .si))).inBounds s = true ∧ s.gpr.bx = 0xFFFF ∧ s.gpr.si = 0xFFFE :=
  ⟨(State.reset.setR16 .bx 0xFFFF).setR16 .si 0xFFFE, by decide⟩
theorem witness_DecodeOfEncodeIsTheInstruction :
    Instr.wf .bpIndirect (.addRm8R8 (.mem (.plain .bp)) .al) = true ∧
    Instr.wf .directDisp16 (.cmpR16Rm16 .di (.mem (.direct 0xFFFF))) = true := by decide
theorem witness_DecodedBytesBeginWithTheEncoding :
    decode .bpIndirect [0x00, 0x06, 0x90] = .ok (.addRm8R8 (.mem (.plain .bp)) .al) := by decide
theorem witness_OperandCountIsAlwaysSupported : (∃ t, step lastTwo = .next t) ∧ lastTwo.haltReason = none :=
  ⟨⟨_, rfl⟩, rfl⟩
theorem witness_StepsHappenOnlyWhenRunning : State.reset.Running ∧
    erroredState.error = some (.outOfBounds 0x10000) ∧ haltedState.error = none ∧ haltedState.halted = true ∧
    ¬ haltedState.Running :=
  ⟨⟨rfl, rfl⟩, rfl, rfl, rfl, fun h => Bool.noConfusion h.2⟩
/-- A machine both halted and errored falls under the error's clause alone (log entry 10). -/
theorem witness_StepsHappenOnlyWhenRunning_both :
    (haltedState.raiseError (.outOfBounds 0x10000)).error = some (.outOfBounds 0x10000) ∧
    (haltedState.raiseError (.outOfBounds 0x10000)).halted = true ∧
    step (haltedState.raiseError (.outOfBounds 0x10000)) = .fault (.errored (.outOfBounds 0x10000)) :=
  ⟨rfl, rfl, rfl⟩
theorem witness_StepRunsTheDecodedInstruction : lastTwo.Running ∧
    Instr.wf lastTwo.params.mod00Rm110 (.xorRm16R16 (.reg .ax) .bx) = true ∧
    lastTwo.MayRun (Instr.opcode (.xorRm16R16 (.reg .ax) .bx)) ∧
    lastTwo.CodeFits (encode (.xorRm16R16 (.reg .ax) .bx)).length ∧
    lastTwo.Holds lastTwo.physIp (encode (.xorRm16R16 (.reg .ax) .bx)) :=
  ⟨⟨rfl, rfl⟩, by decide, .inl (by decide), ⟨by decide, by decide⟩, holds_of_all (by decide)⟩
theorem witness_InstructionBytesAreFetchedFromTheCodeSegment :
    State.reset.ip.toNat + 0x10000 > 0xFFFF ∧ State.reset.ip.toNat + 0xFFFF ≤ 0xFFFF ∧
    State.reset.seg.cs.toNat * 16 + State.reset.ip.toNat + 0xFFFF < State.reset.params.memSize ∧
    (withMemSize 0xFFFF State.reset).seg.cs.toNat * 16 + (withMemSize 0xFFFF State.reset).ip.toNat + 0xFFFF ≥
      (withMemSize 0xFFFF State.reset).params.memSize := by decide
/-- The opcode byte at offset 0xFFFF, of an instruction of two bytes. -/
def crossingState : State := atIp (State.reset.storeByte 0xFFFF 0x31) 0xFFFF
theorem witness_CrossingInstructionsAreRefused : crossingState.Running ∧
    Instr.wf crossingState.params.mod00Rm110 (.xorRm16R16 (.reg .ax) .bx) = true ∧
    crossingState.MayRun (Instr.opcode (.xorRm16R16 (.reg .ax) .bx)) ∧ crossingState.ip.toNat + 1 = 0x10000 ∧
    1 < (encode (.xorRm16R16 (.reg .ax) .bx)).length ∧
    crossingState.physIp + 1 ≤ crossingState.params.memSize ∧
    crossingState.Holds crossingState.physIp ((encode (.xorRm16R16 (.reg .ax) .bx)).take 1) :=
  ⟨⟨rfl, rfl⟩, by decide, .inl (by decide), by decide, by decide, by decide, holds_of_all (by decide)⟩
theorem witness_UnsettledOpcodesAreRefused : classOf (Instr.opcode .unsettledFF) = .unsettled ∧
    ∃ s : State, s.Running ∧ s.physIp < s.params.memSize ∧ classOf (s.byteAt s.physIp) = .unsettled :=
  ⟨by decide, launch [0x80] zeroGpr false false [], ⟨rfl, rfl⟩, by decide, by decide⟩
theorem witness_ProvisionalPolicyDecides : classOf (Instr.opcode .incAx) = .provisional ∧
    (∃ s : State, s.Running ∧ s.physIp < s.params.memSize ∧ classOf (s.byteAt s.physIp) = .provisional ∧
      s.params.provisionalPolicy = .refuse) ∧ State.reset.params.provisionalPolicy = .execute :=
  ⟨by decide, ⟨underRefuse (launch [0x40] zeroGpr false false []), ⟨rfl, rfl⟩, by decide, by decide, rfl⟩, rfl⟩
theorem witness_UnimplementedOpcodesHalt : classOf (Instr.opcode .daa) = .unimplemented ∧
    (∃ s : State, s.Running ∧ s.physIp < s.params.memSize ∧ classOf (s.byteAt s.physIp) = .unimplemented) ∧
    ∃ s : State, s.Running ∧ s.physIp ≥ s.params.memSize :=
  ⟨by decide, ⟨launch [0x27] zeroGpr false false [], ⟨rfl, rfl⟩, by decide, by decide⟩,
    withMemSize 0x100 (atIp State.reset 0x100), ⟨rfl, rfl⟩, by decide⟩
theorem witness_HltHaltsAndAdvances :
    (∃ s : State, s.Running ∧ s.byteAt s.physIp = 0xF4 ∧ s.physIp < s.params.memSize ∧ s.ip = 0xFFFF) ∧
    ∃ s : State, s.Running ∧ s.physIp ≥ s.params.memSize :=
  ⟨⟨atIp (State.reset.storeByte 0xFFFF 0xF4) 0xFFFF, ⟨rfl, rfl⟩, by decide, by decide, rfl⟩,
    withMemSize 0xFFFF (atIp State.reset 0xFFFF), ⟨rfl, rfl⟩, by decide⟩
theorem witness_ErrorsCommitNothing : ∃ s t e, step s = .next t ∧ t.error = some e :=
  ⟨withMemSize 0x100 (atIp State.reset 0x100), _, _, rfl, rfl⟩
theorem witness_StepKeepsTheInvariant : ∃ s t, s.Inv ∧ step s = .next t ∧ t.error = none :=
  ⟨lastTwo, _, ⟨by decide, by decide, by decide, by decide⟩, rfl, rfl⟩
theorem witness_SegmentsAndParametersNeverChange : ∃ s t, step s = .next t := ⟨lastTwo, _, rfl⟩
theorem witness_InertFlagsAreNeitherWrittenNorRead :
    ∃ s t, step s = .next t ∧ s.flags.tf = true := ⟨lastTwo.withInert true true true, _, rfl, rfl⟩
theorem witness_FlatAddressingReadsNoDataSegment : State.reset.params.dataAddressing = .flat := rfl
theorem witness_IpAdvancesByTheLength : (∃ t, exec .hlt State.reset = .next t) ∧
    (∃ t, exec .daa State.reset = .next t) ∧
    (∃ t, exec (.xorRm16R16 (.mem (.plain .bx)) .ax) (State.reset.setR16 .bx 0xFFFF) = .next t) ∧
    Instr.wf .directDisp16 (.xorRm16R16 (.mem (.direct 0xFFFF)) .ax) = true :=
  ⟨⟨_, rfl⟩, ⟨_, rfl⟩, ⟨_, rfl⟩, by decide⟩
theorem witness_OnlyHltAndUnimplementedHalt :
    (∃ t, step (launch [0xF4] zeroGpr false false []) = .next t ∧ t.halted = true) ∧
    ∃ t, step (launch [0xFD] zeroGpr false false []) = .next t ∧ t.halted = true :=
  ⟨⟨_, rfl, rfl⟩, _, rfl, rfl⟩
theorem witness_RunOfAStoppedMachineTakesNoStep : haltedState.error = none ∧ haltedState.halted = true ∧
    erroredState.error = some (.outOfBounds 0x10000) := ⟨rfl, rfl, rfl⟩
theorem witness_TheHaltingStepCounts :
    (∃ s t u, run 0 s = (.stepLimitReached, t) ∧ step t = .next u ∧ u.error = none ∧ u.halted = true) ∧
    (∃ s t u e, run 0 s = (.stepLimitReached, t) ∧ step t = .next u ∧ u.error = some e) ∧
    ∃ s t r, run 0 s = (.stepLimitReached, t) ∧ step t = .refused r :=
  ⟨⟨launch [0xF4] zeroGpr false false [], _, _, rfl, rfl, rfl, rfl⟩,
    ⟨withMemSize 0x100 (atIp State.reset 0x100), _, _, _, rfl, rfl, rfl⟩,
    launch [0x80] zeroGpr false false [], _, _, rfl, rfl⟩
/-- For the completion statements of the ALU kinds: an opcode of each class that may run, and operands whose last
byte is the last byte of memory. -/
theorem witness_AluCompletes : State.reset.MayRun (Instr.opcode (.addRm8R8 (.reg .al) .al)) ∧
    (underRefuse State.reset).MayRun (Instr.opcode (.xorRm16R16 (.reg .ax) .ax)) ∧
    (resolve8 (State.reset.setR16 .si 0xFFFF) (.mem (.plain .si))).inBounds State.reset = true ∧
    (resolve16 (State.reset.setR16 .si 0xFFFE) (.mem (.plain .si))).inBounds State.reset = true :=
  ⟨.inr (.inr ⟨by decide, rfl⟩), .inl (by decide), by decide, by decide⟩
theorem witness_IncAndDecComplete : State.reset.params.provisionalPolicy = .execute := rfl
theorem witness_PushAndPopComplete : ∃ s : State, s.params.provisionalPolicy = .execute ∧
    stackPA s (s.gpr.sp - 2) + 1 < s.params.memSize ∧ stackPA s s.gpr.sp + 1 < s.params.memSize ∧
    s.gpr.sp = 0xFFFE := ⟨State.reset.setR16 .sp 0xFFFE, by decide⟩
/-- A machine whose word at BX and at SP crosses the end of memory, and whose byte at DI is past it. -/
def edgeState : State :=
  withMemSize 0x100 (((State.reset.setR16 .bx 0x00FF).setR16 .sp 0x00FF).setR16 .di 0x0100)
theorem witness_OutOfBoundsOperandsRaise : edgeState.byteInBounds (operandPA edgeState (.plain .di)) = false ∧
    edgeState.wordInBounds (operandPA edgeState (.plain .bx)) = false ∧
    edgeState.MayRun (Instr.opcode (.cmpR8Rm8 .al (.mem (.plain .di)))) ∧
    edgeState.MayRun (Instr.opcode (.xorRm16R16 (.mem (.plain .bx)) .ax)) ∧
    edgeState.params.provisionalPolicy = .execute ∧
    edgeState.wordInBounds (stackPA edgeState edgeState.gpr.sp) = false ∧
    (edgeState.setR16 .sp 1).wordInBounds
      (stackPA (edgeState.setR16 .sp 1) ((edgeState.setR16 .sp 1).gpr.sp - 2)) = false :=
  ⟨by decide, by decide, .inr (.inr ⟨by decide, rfl⟩), .inl (by decide), rfl, by decide, by decide⟩
/-- An instruction whose last displacement byte is the first byte past the end of memory. -/
def cutState : State := withMemSize 0x100 (atIp (placeBytes State.reset 0xFD [0x21, 0x93, 0x00]) 0xFD)
theorem witness_OutOfBoundsOperandsRaise_step : (atIp edgeState 0x100).Running ∧
    (atIp edgeState 0x100).params.memSize ≤ (atIp edgeState 0x100).physIp ∧ cutState.Running ∧
    Instr.wf cutState.params.mod00Rm110 (.andRm16R16 (.mem (.disp16 .bpDi 0x1000)) .dx) = true ∧
    cutState.MayRun (Instr.opcode (.andRm16R16 (.mem (.disp16 .bpDi 0x1000)) .dx)) ∧
    cutState.physIp + 3 = cutState.params.memSize ∧
    3 < (encode (.andRm16R16 (.mem (.disp16 .bpDi 0x1000)) .dx)).length ∧ cutState.ip.toNat + 3 ≤ 0xFFFF ∧
    cutState.Holds cutState.physIp ((encode (.andRm16R16 (.mem (.disp16 .bpDi 0x1000)) .dx)).take 3) :=
  ⟨⟨rfl, rfl⟩, by decide, ⟨rfl, rfl⟩, by decide, .inl (by decide), by decide, by decide, by decide,
    holds_of_all (by decide)⟩
theorem witness_RmDestinationFrame : Memory.wf State.reset.mem = true ∧
    (∃ t, exec (.addRm8R8 (.mem (.plain .bx)) .al) State.reset = .next t) ∧
    ∃ t, exec (.cmpRm16R16 (.reg .sp) .ax) State.reset = .next t := ⟨by decide, ⟨_, rfl⟩, _, rfl⟩
theorem witness_RegisterDestinationFrame : (∃ t, exec (.subR8Rm8 .bh (.mem (.plain .bx))) State.reset = .next t) ∧
    (∃ t, exec (.andAlImm8 0x0F) State.reset = .next t) ∧ ∃ t, exec (.cmpAxImm16 3) State.reset = .next t :=
  ⟨⟨_, rfl⟩, ⟨_, rfl⟩, _, rfl⟩
theorem witness_IncDecAndStackFrame : Memory.wf State.reset.mem = true ∧
    (∃ t, exec (incOf .sp) State.reset = .next t) ∧ (∃ t, exec (decOf .ax) State.reset = .next t) ∧
    (∃ t, exec (pushOf .sp) State.reset = .next t) ∧ ∃ t, exec (popOf .sp) State.reset = .next t :=
  ⟨by decide, ⟨_, rfl⟩, ⟨_, rfl⟩, ⟨_, rfl⟩, _, rfl⟩

end Sys2Proof.Tests
end

section
/-! Every arm of `exec` is one of a few templates with operands filled in: what is said of every template holds of
every instruction. -/

namespace Sys2Proof.Machine

/-- The meanings an instruction can have: the templates of R200, R201, R300 and R301, HLT, and what is done for an
opcode of a class without operation (42_engine.md R169, R173, R174). -/
inductive Template : (State → Out) → Prop where
  | rmR8 (k : AluKind) (rm : Rm8) (r : Reg8) : Template (aluRmR8 k rm r)
  | rmR16 (k : AluKind) (rm : Rm16) (r : Reg16) : Template (aluRmR16 k rm r)
  | rRm8 (k : AluKind) (r : Reg8) (rm : Rm8) : Template (aluRRm8 k r rm)
  | rRm16 (k : AluKind) (r : Reg16) (rm : Rm16) : Template (aluRRm16 k r rm)
  | alImm (k : AluKind) (imm : Byte) : Template (aluAlImm k imm)
  | axImm (k : AluKind) (imm : Word) : Template (aluAxImm k imm)
  | incR (r : Reg16) : Template (incR r)
  | decR (r : Reg16) : Template (decR r)
  | pushR (r : Reg16) : Template (pushR r)
  | popR (r : Reg16) : Template (popR r)
  | hlt : Template execHlt
  | halt (op : Byte) : Template (haltUnimplemented op)
  | refuse (op : Byte) : Template fun _ => refuseUnsettled op
  | provisional {op : Byte} {run : State → Out} (h : Template run) : Template (provisional op run)

/-- Every instruction means one of the templates. -/
theorem exec_template (i : Instr) : Template (exec i) := by
  cases i with
  | andRm16R16 | xorRm16R16 => exact .rmR16 _ _ _
  | addRm8R8 | orRm8R8 | adcRm8R8 | sbbRm8R8 | andRm8R8 | subRm8R8 | xorRm8R8 | cmpRm8R8 =>
    exact .provisional (.rmR8 _ _ _)
  | addRm16R16 | orRm16R16 | adcRm16R16 | sbbRm16R16 | subRm16R16 | cmpRm16R16 => exact .provisional (.rmR16 _ _ _)
  | addR8Rm8 | orR8Rm8 | adcR8Rm8 | sbbR8Rm8 | andR8Rm8 | subR8Rm8 | xorR8Rm8 | cmpR8Rm8 =>
    exact .provisional (.rRm8 _ _ _)
  | addR16Rm16 | orR16Rm16 | adcR16Rm16 | sbbR16Rm16 | andR16Rm16 | subR16Rm16 | xorR16Rm16 | cmpR16Rm16 =>
    exact .provisional (.rRm16 _ _ _)
  | addAlImm8 | orAlImm8 | adcAlImm8 | sbbAlImm8 | andAlImm8 | subAlImm8 | xorAlImm8 | cmpAlImm8 =>
    exact .provisional (.alImm _ _)
  | addAxImm16 | orAxImm16 | adcAxImm16 | sbbAxImm16 | andAxImm16 | subAxImm16 | xorAxImm16 | cmpAxImm16 =>
    exact .provisional (.axImm _ _)
  | incAx | incCx | incDx | incBx | incSp | incBp | incSi | incDi => exact .provisional (.incR _)
  | decAx | decCx | decDx | decBx | decSp | decBp | decSi | decDi => exact .provisional (.decR _)
  | pushAx | pushCx | pushDx | pushBx | pushSp | pushBp | pushSi | pushDi => exact .provisional (.pushR _)
  | popAx | popCx | popDx | popBx | popSp | popBp | popSi | popDi => exact .provisional (.popR _)
  | hlt => exact .hlt
  | unsettled06 | unsettled07 | unsettled0E | unsettled0F | unsettled16 | unsettled17 | unsettled1E
  | unsettled1F | unsettled2F | unsettled37 | unsettled3F | unsettled80 | unsettled81 | unsettled82
  | unsettled83 | unsettled84 | unsettled85 | unsettled8F | unsettled9C | unsettled9D | unsettledA8
  | unsettledA9 | unsettledD0 | unsettledD1 | unsettledD2 | unsettledD3 | unsettledD4 | unsettledD5
  | unsettledF6 | unsettledF7 | unsettledFE | unsettledFF =>
    exact .refuse _
  | unimplemented26 | daa | unimplemented2E | unimplemented36 | unimplemented3E | unimplemented60
  | unimplemented61 | unimplemented62 | unimplemented63 | unimplemented64 | unimplemented65 | unimplemented66
  | unimplemented67 | unimplemented68 | unimplemented69 | unimplemented6A | unimplemented6B | unimplemented6C
  | unimplemented6D | unimplemented6E | unimplemented6F | unimplemented70 | unimplemented71 | unimplemented72
  | unimplemented73 | unimplemented74 | unimplemented75 | unimplemented76 | unimplemented77 | unimplemented78
  | unimplemented79 | unimplemented7A | unimplemented7B | unimplemented7C | unimplemented7D | unimplemented7E
  | unimplemented7F | unimplemented86 | unimplemented87 | unimplemented88 | unimplemented89 | unimplemented8A
  | unimplemented8B | unimplemented8C | unimplemented8D | unimplemented8E | unimplemented90 | unimplemented91
  | unimplemented92 | unimplemented93 | unimplemented94 | unimplemented95 | unimplemented96 | unimplemented97
  | unimplemented98 | unimplemented99 | unimplemented9A | unimplemented9B | unimplemented9E | unimplemented9F
  | unimplementedA0 | unimplementedA1 | unimplementedA2 | unimplementedA3 | unimplementedA4 | unimplementedA5
  | unimplementedA6 | unimplementedA7 | unimplementedAA | unimplementedAB | unimplementedAC | unimplementedAD
  | unimplementedAE | unimplementedAF | unimplementedB0 | unimplementedB1 | unimplementedB2 | unimplementedB3
  | unimplementedB4 | unimplementedB5 | unimplementedB6 | unimplementedB7 | unimplementedB8 | unimplementedB9
  | unimplementedBA | unimplementedBB | unimplementedBC | unimplementedBD | unimplementedBE | unimplementedBF
  | unimplementedC0 | unimplementedC1 | unimplementedC2 | unimplementedC3 | unimplementedC4 | unimplementedC5
  | unimplementedC6 | unimplementedC7 | unimplementedC8 | unimplementedC9 | unimplementedCA | unimplementedCB
  | unimplementedCC | unimplementedCD | unimplementedCE | unimplementedCF | unimplementedD6 | unimplementedD7
  | unimplementedD8 | unimplementedD9 | unimplementedDA | unimplementedDB | unimplementedDC | unimplementedDD
  | unimplementedDE | unimplementedDF | unimplementedE0 | unimplementedE1 | unimplementedE2 | unimplementedE3
  | unimplementedE4 | unimplementedE5 | unimplementedE6 | unimplementedE7 | unimplementedE8 | unimplementedE9
  | unimplementedEA | unimplementedEB | unimplementedEC | unimplementedED | unimplementedEE | unimplementedEF
  | unimplementedF0 | unimplementedF1 | unimplementedF2 | unimplementedF3 | unimplementedF5 | unimplementedF8
  | unimplementedF9 | unimplementedFA | unimplementedFB | unimplementedFC | unimplementedFD =>
    exact .halt _

end Sys2Proof.Machine
end

section
/-! A change of segment registers and flags that no step observes (10_state.md R27, R32; 20_memory.md R61, R62): it
commutes with every template, so with every instruction and every step. -/

namespace Sys2Proof.Machine

/-- The state with its segment registers and its flags changed by functions of them alone. -/
def State.mapSegFlags (g : Seg → Seg) (f : Flags → Flags) (s : State) : State :=
  { s with seg := g s.seg, flags := f s.flags }

/-- A change of segment registers and flags that shows in nothing the rules read, from states with the given
parameters: CS and CF stay, it commutes with every write of flags, and it changes a segment register only under
FLAT, where no data or stack address reads one. -/
structure Hidden (p : Params) (g : Seg → Seg) (f : Flags → Flags) : Prop where
  cs : ∀ x, (g x).cs = x.cs
  cf : ∀ a, (f a).cf = a.cf
  update : ∀ a u, (f a).update u = f (a.update u)
  flat : p.dataAddressing = .flat ∨ ∀ x, g x = x

/-- TF, IF and DF are hidden, whatever the parameters. -/
theorem hidden_inert (p : Params) (x y z : Bool) :
    Hidden p (fun a => a) (fun a => { a with tf := x, if_ := y, df := z }) where
  cs _ := rfl
  cf _ := rfl
  update _ _ := rfl
  flat := .inr fun _ => rfl

/-- ES, SS and DS are hidden under FLAT. -/
theorem hidden_dataSegs {p : Params} (es ss ds : Word) (hp : p.dataAddressing = .flat) :
    Hidden p (fun a => { a with es := es, ss := ss, ds := ds }) (fun a => a) where
  cs _ := rfl
  cf _ := rfl
  update _ _ := rfl
  flat := .inl hp

section
variable (s : State) (g : Seg → Seg) (f : Flags → Flags)

/-! ### What the change leaves, and the writes it commutes with -/

@[simp] theorem State.mapSegFlags_gpr : (s.mapSegFlags g f).gpr = s.gpr := rfl
@[simp] theorem State.mapSegFlags_seg : (s.mapSegFlags g f).seg = g s.seg := rfl
@[simp] theorem State.mapSegFlags_ip : (s.mapSegFlags g f).ip = s.ip := rfl
@[simp] theorem State.mapSegFlags_flags : (s.mapSegFlags g f).flags = f s.flags := rfl
@[simp] theorem State.mapSegFlags_mem : (s.mapSegFlags g f).mem = s.mem := rfl
@[simp] theorem State.mapSegFlags_params : (s.mapSegFlags g f).params = s.params := rfl
@[simp] theorem State.mapSegFlags_r16 (r : Reg16) : (s.mapSegFlags g f).r16 r = s.r16 r := by cases r <;> rfl
@[simp] theorem State.mapSegFlags_r8 (r : Reg8) : (s.mapSegFlags g f).r8 r = s.r8 r := by simp [State.r8]
@[simp] theorem State.mapSegFlags_byteInBounds (a : Nat) :
    (s.mapSegFlags g f).byteInBounds a = s.byteInBounds a := rfl
@[simp] theorem State.mapSegFlags_wordInBounds (a : Nat) :
    (s.mapSegFlags g f).wordInBounds a = s.wordInBounds a := rfl
@[simp] theorem notRunning_mapSegFlags : notRunning (s.mapSegFlags g f) = notRunning s := rfl
@[simp] theorem memRead8_mapSegFlags (a : Nat) : memRead8 (s.mapSegFlags g f) a = memRead8 s a := rfl
@[simp] theorem memRead16_mapSegFlags (a : Nat) : memRead16 (s.mapSegFlags g f) a = memRead16 s a := rfl
@[simp] theorem effAddr_mapSegFlags (m : MemOperand) : effAddr (s.mapSegFlags g f) m = effAddr s m := rfl

theorem State.mapSegFlags_setR16 (r : Reg16) (v : Word) :
    (s.mapSegFlags g f).setR16 r v = (s.setR16 r v).mapSegFlags g f := by cases r <;> rfl

theorem State.mapSegFlags_setR8 (r : Reg8) (v : Byte) :
    (s.mapSegFlags g f).setR8 r v = (s.setR8 r v).mapSegFlags g f := by
  simp only [State.setR8, State.mapSegFlags_r16, State.mapSegFlags_setR16]

theorem State.mapSegFlags_advance (n : Nat) :
    (s.mapSegFlags g f).advance n = (s.advance n).mapSegFlags g f := rfl

theorem memWrite8_mapSegFlags (a : Nat) (v : Byte) :
    memWrite8 (s.mapSegFlags g f) a v = (memWrite8 s a v).map (State.mapSegFlags g f) := by
  unfold memWrite8
  rw [State.mapSegFlags_byteInBounds]
  split <;> rfl

theorem memWrite16_mapSegFlags (a : Nat) (v : Word) :
    memWrite16 (s.mapSegFlags g f) a v = (memWrite16 s a v).map (State.mapSegFlags g f) := by
  unfold memWrite16
  rw [State.mapSegFlags_wordInBounds]
  split <;> rfl

theorem readLoc8_mapSegFlags (l : Loc8) : readLoc8 (s.mapSegFlags g f) l = readLoc8 s l := by
  cases l with
  | reg r => simp [readLoc8]
  | mem pa => rfl

theorem readLoc16_mapSegFlags (l : Loc16) : readLoc16 (s.mapSegFlags g f) l = readLoc16 s l := by
  cases l with
  | reg r => simp [readLoc16]
  | mem pa => rfl

theorem writeLoc8_mapSegFlags (l : Loc8) (v : Byte) :
    writeLoc8 (s.mapSegFlags g f) l v = (writeLoc8 s l v).map (State.mapSegFlags g f) := by
  cases l with
  | reg r => simp [writeLoc8, Except.map, State.mapSegFlags_setR8]
  | mem pa => exact memWrite8_mapSegFlags s g f pa v

theorem writeLoc16_mapSegFlags (l : Loc16) (v : Word) :
    writeLoc16 (s.mapSegFlags g f) l v = (writeLoc16 s l v).map (State.mapSegFlags g f) := by
  cases l with
  | reg r => simp [writeLoc16, Except.map, State.mapSegFlags_setR16]
  | mem pa => exact memWrite16_mapSegFlags s g f pa v

theorem settle_mapSegFlags (r : Except Error State) :
    settle (s.mapSegFlags g f) (r.map (State.mapSegFlags g f)) = mapNext (State.mapSegFlags g f) (settle s r) := by
  cases r <;> rfl

end

section
variable {s : State} {g : Seg → Seg} {f : Flags → Flags} (hid : Hidden s.params g f)
include hid

/-! ### What a hidden change leaves besides: the addresses and the flags that are read -/

theorem Hidden.dataPA_eq (ea : Word) (r : SegReg) : dataPA (s.mapSegFlags g f) ea r = dataPA s ea r := by
  obtain hp | hg := hid.flat
  · simp [dataPA, hp]
  · cases r <;> simp [dataPA, State.sreg, hg]

theorem Hidden.stackPA_eq (sp : Word) : stackPA (s.mapSegFlags g f) sp = stackPA s sp := by
  obtain hp | hg := hid.flat
  · simp [stackPA, hp]
  · simp [stackPA, State.sreg, hg]

theorem Hidden.resolve8_eq (rm : Rm8) : resolve8 (s.mapSegFlags g f) rm = resolve8 s rm := by
  cases rm with
  | reg r => rfl
  | mem m => simp [resolve8, operandPA, hid.dataPA_eq]

theorem Hidden.resolve16_eq (rm : Rm16) : resolve16 (s.mapSegFlags g f) rm = resolve16 s rm := by
  cases rm with
  | reg r => rfl
  | mem m => simp [resolve16, operandPA, hid.dataPA_eq]

theorem Hidden.physIp_eq : (s.mapSegFlags g f).physIp = s.physIp := by simp [State.physIp, hid.cs]

/-! ### The templates -/

theorem Hidden.setFlags_update_eq (t : State) (a : Flags) (u : FlagWrite) :
    (t.mapSegFlags g f).setFlags ((f a).update u) = (t.setFlags (a.update u)).mapSegFlags g f := by
  rw [hid.update]
  rfl

/-- An ALU instruction on locations that the change leaves: reads agree and the write commutes. -/
theorem Hidden.aluCommit_eq {w : Nat} {k : AluKind} {len : Nat} {dst src : Except Error (BitVec w)}
    {write write' : BitVec w → Except Error State}
    (hw : ∀ v, write' v = (write v).map (State.mapSegFlags g f)) :
    aluCommit k len dst src write' (s.mapSegFlags g f) =
      mapNext (State.mapSegFlags g f) (aluCommit k len dst src write s) := by
  unfold aluCommit
  rw [← settle_mapSegFlags]
  congr 1
  cases dst with
  | error e => rfl
  | ok a =>
    cases src with
    | error e => rfl
    | ok b =>
      simp only [Except.bind, State.mapSegFlags_flags, hid.cf]
      cases k.writes with
      | false => simp [Except.map, hid.setFlags_update_eq, State.mapSegFlags_advance]
      | true =>
        simp only [if_true, hw]
        cases write (k.fn a b s.flags.cf).1 with
        | error e => rfl
        | ok t => simp [Except.map, hid.setFlags_update_eq, State.mapSegFlags_advance]

theorem Hidden.aluLoc8_eq (k : AluKind) (len : Nat) (dst src : Loc8) :
    aluLoc8 k len dst src (s.mapSegFlags g f) = mapNext (State.mapSegFlags g f) (aluLoc8 k len dst src s) := by
  simp only [aluLoc8, readLoc8_mapSegFlags]
  exact hid.aluCommit_eq (writeLoc8_mapSegFlags s g f dst)

theorem Hidden.aluLoc16_eq (k : AluKind) (len : Nat) (dst src : Loc16) :
    aluLoc16 k len dst src (s.mapSegFlags g f) =
      mapNext (State.mapSegFlags g f) (aluLoc16 k len dst src s) := by
  simp only [aluLoc16, readLoc16_mapSegFlags]
  exact hid.aluCommit_eq (writeLoc16_mapSegFlags s g f dst)

theorem Hidden.pushR_eq (r : Reg16) :
    pushR r (s.mapSegFlags g f) = mapNext (State.mapSegFlags g f) (pushR r s) := by
  have hsp : pushSp (s.mapSegFlags g f) = pushSp s := rfl
  have hv : pushValue r (s.mapSegFlags g f) = pushValue r s := by simp [pushValue, hsp]
  simp only [pushR, hsp, hv, hid.stackPA_eq, memWrite16_mapSegFlags, ← settle_mapSegFlags]
  cases memWrite16 s (stackPA s (pushSp s)) (pushValue r s) with
  | error e => rfl
  | ok t => simp [Except.map, State.mapSegFlags_setR16, State.mapSegFlags_advance]

theorem Hidden.popR_eq (r : Reg16) :
    popR r (s.mapSegFlags g f) = mapNext (State.mapSegFlags g f) (popR r s) := by
  simp only [popR, State.mapSegFlags_r16, hid.stackPA_eq, memRead16_mapSegFlags, ← settle_mapSegFlags]
  cases memRead16 s (stackPA s (s.r16 .sp)) with
  | error e => rfl
  | ok v => simp [Except.map, State.mapSegFlags_setR16, State.mapSegFlags_advance]

/-- Every template commutes with a hidden change. -/
theorem Hidden.template_eq {run : State → Out} (hr : Template run) :
    run (s.mapSegFlags g f) = mapNext (State.mapSegFlags g f) (run s) := by
  induction hr with
  | rmR8 k rm r => simp only [aluRmR8, hid.resolve8_eq, hid.aluLoc8_eq]
  | rmR16 k rm r => simp only [aluRmR16, hid.resolve16_eq, hid.aluLoc16_eq]
  | rRm8 k r rm => simp only [aluRRm8, hid.resolve8_eq, hid.aluLoc8_eq]
  | rRm16 k r rm => simp only [aluRRm16, hid.resolve16_eq, hid.aluLoc16_eq]
  | alImm k imm =>
    simp only [aluAlImm, readLoc8_mapSegFlags]
    exact hid.aluCommit_eq (writeLoc8_mapSegFlags s g f (.reg .al))
  | axImm k imm =>
    simp only [aluAxImm, readLoc16_mapSegFlags]
    exact hid.aluCommit_eq (writeLoc16_mapSegFlags s g f (.reg .ax))
  | incR r => simp [incR, mapNext, State.mapSegFlags_setR16, hid.setFlags_update_eq, State.mapSegFlags_advance]
  | decR r => simp [decR, mapNext, State.mapSegFlags_setR16, hid.setFlags_update_eq, State.mapSegFlags_advance]
  | pushR r => exact hid.pushR_eq r
  | popR r => exact hid.popR_eq r
  | hlt => rfl
  | halt op => rfl
  | refuse op => rfl
  | @provisional op run _ ih =>
    unfold provisional
    rw [State.mapSegFlags_params]
    cases s.params.provisionalPolicy with
    | refuse => rfl
    | execute => exact ih

/-! ### The step -/

theorem Hidden.instrByte_eq : instrByte (s.mapSegFlags g f) = instrByte s := by
  funext n
  simp only [instrByte, State.mapSegFlags_ip, hid.physIp_eq, memRead8_mapSegFlags]

theorem Hidden.fetchInstr_eq : fetchInstr (s.mapSegFlags g f) = fetchInstr s := by
  have hc : classRefusal (s.mapSegFlags g f) = classRefusal s := rfl
  simp only [fetchInstr, hid.instrByte_eq, hc, State.mapSegFlags_params]

/-- Every step commutes with a hidden change. -/
theorem Hidden.step_eq : step (s.mapSegFlags g f) = mapNext (State.mapSegFlags g f) (step s) := by
  unfold step
  rw [notRunning_mapSegFlags, hid.fetchInstr_eq]
  cases notRunning s with
  | some x => rfl
  | none =>
    cases fetchInstr s with
    | ok i => exact hid.template_eq (exec_template i)
    | error e => cases e <;> rfl

end

end Sys2Proof.Machine
end

section
/-! What the templates leave unchanged (10_state.md R27, R32; 42_engine.md R182; 43_alu_instructions.md R200 to R202;
44_incdec_stack.md R300, R301). -/

namespace Sys2Proof.Machine

/-! ### Registers -/

theorem reg16Of_inRange {id : Nat} (h : id < 8) : reg16Of id = .ok (Reg16.ofId (BitVec.ofNat 3 id)) := if_pos h

theorem reg8Of_inRange {id : Nat} (h : id < 8) : reg8Of id = .ok (Reg8.ofId (BitVec.ofNat 3 id)) := if_pos h

/-- A register write changes nothing outside the register file. -/
theorem State.setR16_restore_gpr (s : State) (r : Reg16) (v : Word) : { s.setR16 r v with gpr := s.gpr } = s := by
  cases r <;> rfl

theorem Loc8.reg_ne_reg (r : Reg8) {q : Reg8} (h : q ≠ r) : Loc8.reg r ≠ .reg q := fun he => h (Loc8.reg.inj he).symm

theorem Loc16.reg_ne_reg (r : Reg16) {q : Reg16} (h : q ≠ r) : Loc16.reg r ≠ .reg q :=
  fun he => h (Loc16.reg.inj he).symm

/-! ### Flags, and what a written location leaves -/

@[simp] theorem Flags.update_tf (f : Flags) (u : FlagWrite) : (f.update u).tf = f.tf := rfl
@[simp] theorem Flags.update_if (f : Flags) (u : FlagWrite) : (f.update u).if_ = f.if_ := rfl
@[simp] theorem Flags.update_df (f : Flags) (u : FlagWrite) : (f.update u).df = f.df := rfl

theorem Flags.update_cf_of_none (f : Flags) {u : FlagWrite} (hu : u.cf = none) : (f.update u).cf = f.cf := by
  simp [Flags.update, hu]

theorem Flags.update_af_of_none (f : Flags) {u : FlagWrite} (hu : u.af = none) : (f.update u).af = f.af := by
  simp [Flags.update, hu]

/-- The logical kinds do not write AF (R134). -/
theorem AluKind.fn_af_of_logical {w : Nat} {k : AluKind} (a b : BitVec w) (c : Bool)
    (hk : k = .and ∨ k = .or ∨ k = .xor) : (k.fn a b c).2.af = none := by
  obtain rfl | rfl | rfl := hk <;> rfl

theorem Reg8.parent_not_pointer (r : Reg8) : Reg8.parent r ∉ [Reg16.sp, .bp, .si, .di] := by
  cases r <;> decide

/-- No byte write reaches SP, BP, SI or DI (R25). -/
theorem State.setR8_r16_pointer (s : State) {p : Reg16} (r : Reg8) (v : Byte)
    (hp : p ∈ [Reg16.sp, .bp, .si, .di]) : (s.setR8 r v).r16 p = s.r16 p :=
  State.setR8_r16_other s v fun h => Reg8.parent_not_pointer r (h ▸ hp)

theorem Loc8.put_r8_other {s : State} (v : Byte) {l : Loc8} {q : Reg8} (h : l ≠ .reg q) :
    (l.put s v).r8 q = s.r8 q := by
  cases l with
  | reg r => exact State.setR8_r8_other s v fun hq => h (hq ▸ rfl)
  | mem pa => exact State.storeByte_r8 s pa v q

theorem Loc8.put_r16_pointer {s : State} (v : Byte) (l : Loc8) {p : Reg16} (hp : p ∈ [Reg16.sp, .bp, .si, .di]) :
    (l.put s v).r16 p = s.r16 p := by
  cases l with
  | reg r => exact State.setR8_r16_pointer s r v hp
  | mem pa => exact State.storeByte_r16 s pa v p

theorem Loc8.put_byteAt_other {s : State} (v : Byte) {l : Loc8} {a : Nat} (hw : Memory.wf s.mem = true)
    (h : l ≠ .mem a) : (l.put s v).byteAt a = s.byteAt a := by
  cases l with
  | reg r => exact State.setR8_byteAt s r v a
  | mem pa =>
    have ha : a ≠ pa := fun ha => h (ha ▸ rfl)
    exact (State.storeByte_byteAt pa a v hw).trans (if_neg ha)

theorem Loc16.put_r16_other {s : State} (v : Word) {l : Loc16} {q : Reg16} (h : l ≠ .reg q) :
    (l.put s v).r16 q = s.r16 q := by
  cases l with
  | reg r => exact State.setR16_r16_other s v fun hq => h (hq ▸ rfl)
  | mem pa => exact State.storeWord_r16 s pa v q

theorem State.storeWord_byteAt_other {s : State} {pa a : Nat} (v : Word) (hw : Memory.wf s.mem = true)
    (h : a ≠ pa ∧ a ≠ pa + 1) : (s.storeWord pa v).byteAt a = s.byteAt a := by
  rw [State.storeWord_byteAt pa a v hw, if_neg h.1, if_neg h.2]

theorem Loc16.put_byteAt_other {s : State} (v : Word) {l : Loc16} {a : Nat} (hw : Memory.wf s.mem = true)
    (h : ∀ pa, l = .mem pa → a ≠ pa ∧ a ≠ pa + 1) : (l.put s v).byteAt a = s.byteAt a := by
  cases l with
  | reg r => exact State.setR16_byteAt s r v a
  | mem pa => exact State.storeWord_byteAt_other v hw (h pa rfl)

theorem resolve8_ne_reg (s : State) {rm : Rm8} {q : Reg8} (h : rm ≠ .reg q) : resolve8 s rm ≠ .reg q := by
  cases rm with
  | reg r => exact Loc8.reg_ne_reg r fun hq => h (hq ▸ rfl)
  | mem m => exact Loc8.noConfusion

theorem resolve16_ne_reg (s : State) {rm : Rm16} {q : Reg16} (h : rm ≠ .reg q) : resolve16 s rm ≠ .reg q := by
  cases rm with
  | reg r => exact Loc16.reg_ne_reg r fun hq => h (hq ▸ rfl)
  | mem m => exact Loc16.noConfusion

/-! ### The system state -/

theorem KeepsSystem.refl (s : State) : KeepsSystem s s := ⟨rfl, rfl, rfl, rfl, rfl, rfl, rfl⟩

theorem keepsSystem_raiseError (s : State) (e : Error) : KeepsSystem s (s.raiseError e) := KeepsSystem.refl s

/-- Writing the six flags and IP keeps the system state. -/
theorem KeepsSystem.setFlags_advance {s t : State} (h : KeepsSystem s t) (u : FlagWrite) (n : Nat) :
    KeepsSystem s ((t.setFlags (s.flags.update u)).advance n) := by
  obtain ⟨hseg, -, -, -, hhalted, hreason, hparams⟩ := h
  exact ⟨hseg, rfl, rfl, rfl, hhalted, hreason, hparams⟩

theorem keepsSystem_setR16 (s : State) (r : Reg16) (v : Word) : KeepsSystem s (s.setR16 r v) := by
  simp [KeepsSystem]

theorem keepsSystem_put8 (s : State) (v : Byte) (l : Loc8) : KeepsSystem s (l.put s v) := by simp [KeepsSystem]

theorem keepsSystem_put16 (s : State) (v : Word) (l : Loc16) : KeepsSystem s (l.put s v) := by simp [KeepsSystem]

theorem keepsSystem_aluDone8 (k : AluKind) (s : State) (dst : Loc8) (p : Byte × FlagWrite) (len : Nat) :
    KeepsSystem s (aluDone8 k s dst p len) := by
  unfold aluDone8
  split
  · exact (keepsSystem_put8 s p.1 dst).setFlags_advance p.2 len
  · exact (KeepsSystem.refl s).setFlags_advance p.2 len

theorem keepsSystem_aluDone16 (k : AluKind) (s : State) (dst : Loc16) (p : Word × FlagWrite) (len : Nat) :
    KeepsSystem s (aluDone16 k s dst p len) := by
  unfold aluDone16
  split
  · exact (keepsSystem_put16 s p.1 dst).setFlags_advance p.2 len
  · exact (KeepsSystem.refl s).setFlags_advance p.2 len

theorem keepsSystem_pushDone (r : Reg16) (s : State) : KeepsSystem s (pushDone r s) := by
  simp [KeepsSystem, pushDone]

theorem keepsSystem_popDone (r : Reg16) (s : State) : KeepsSystem s (popDone r s) := by
  simp [KeepsSystem, popDone]

/-! ### ERROR -/

theorem aluDone8_error (k : AluKind) (s : State) (dst : Loc8) (p : Byte × FlagWrite) (len : Nat) :
    (aluDone8 k s dst p len).error = s.error := by
  unfold aluDone8
  split <;> simp

theorem aluDone16_error (k : AluKind) (s : State) (dst : Loc16) (p : Word × FlagWrite) (len : Nat) :
    (aluDone16 k s dst p len).error = s.error := by
  unfold aluDone16
  split <;> simp

theorem pushDone_error (r : Reg16) (s : State) : (pushDone r s).error = s.error := by simp [pushDone]

theorem popDone_error (r : Reg16) (s : State) : (popDone r s).error = s.error := by simp [popDone]

/-- An instruction raises OutOfBounds or leaves ERROR. -/
theorem exec_raisesOrKeepsError {i : Instr} {s t : State} (h : exec i s = .next t) : RaisesOrKeepsError s t := by
  cases exec_effect h with
  | raised a => exact .inr ⟨a, rfl⟩
  | unimplemented _ => exact .inl rfl
  | hlt _ => exact .inl rfl
  | alu8 k dst _ _ _ => exact .inl (aluDone8_error k s dst _ _)
  | alu16 k dst _ _ _ => exact .inl (aluDone16_error k s dst _ _)
  | incDec r p _ _ _ => exact .inl (by simp)
  | push r _ _ _ => exact .inl (pushDone_error r s)
  | pop r _ _ _ => exact .inl (popDone_error r s)

/-! ### What no step writes -/

/-- Segment registers, parameters, TF, IF and DF are as before (R27, R32, 20_memory.md R50). -/
def KeepsUnwritten (s t : State) : Prop :=
  t.seg = s.seg ∧ t.params = s.params ∧
    t.flags.tf = s.flags.tf ∧ t.flags.if_ = s.flags.if_ ∧ t.flags.df = s.flags.df

theorem KeepsSystem.keepsUnwritten {s t : State} (h : KeepsSystem s t) : KeepsUnwritten s t := by
  obtain ⟨hseg, htf, hif, hdf, -, -, hparams⟩ := h
  exact ⟨hseg, hparams, htf, hif, hdf⟩

theorem exec_keepsUnwritten {i : Instr} {s t : State} (h : exec i s = .next t) : KeepsUnwritten s t := by
  cases exec_effect h with
  | raised a => exact (keepsSystem_raiseError s _).keepsUnwritten
  | unimplemented _ => exact ⟨rfl, rfl, rfl, rfl, rfl⟩
  | hlt _ => exact ⟨rfl, rfl, rfl, rfl, rfl⟩
  | alu8 k dst _ _ _ => exact (keepsSystem_aluDone8 k s dst _ _).keepsUnwritten
  | alu16 k dst _ _ _ => exact (keepsSystem_aluDone16 k s dst _ _).keepsUnwritten
  | incDec r p _ _ _ => exact ((keepsSystem_setR16 s r p.1).setFlags_advance p.2 1).keepsUnwritten
  | push r _ _ _ => exact (keepsSystem_pushDone r s).keepsUnwritten
  | pop r _ _ _ => exact (keepsSystem_popDone r s).keepsUnwritten

theorem step_keepsUnwritten {s t : State} (h : step s = .next t) : KeepsUnwritten s t := by
  obtain ⟨-, ⟨a, rfl⟩ | ⟨i, -, hi⟩⟩ := step_next h
  · exact (keepsSystem_raiseError s _).keepsUnwritten
  · exact exec_keepsUnwritten hi

/-- The only error a step ends with is OutOfBounds (60_exceptions.md R341, R342). -/
theorem step_error_outOfBounds {s t : State} {e : Error} (h : step s = .next t) (he : t.error = some e) :
    ∃ a, e = .outOfBounds a := by
  obtain ⟨⟨hnone, -⟩, ⟨a, rfl⟩ | ⟨i, -, hi⟩⟩ := step_next h
  · exact ⟨a, (Option.some.inj he).symm⟩
  · obtain hkept | ⟨a, rfl⟩ := exec_raisesOrKeepsError hi
    · rw [hkept, hnone] at he
      cases he
    · exact ⟨a, (Option.some.inj he).symm⟩

/-! ### The frame of the ALU instructions -/

/-- What an ALU instruction of width 8 with this destination leaves unchanged. -/
structure AluFrame8 (k : AluKind) (dst : Loc8) (s t : State) : Prop where
  system : KeepsSystem s t
  error : RaisesOrKeepsError s t
  reg : ∀ q, k = .cmp ∨ dst ≠ .reg q → t.r8 q = s.r8 q
  pointer : ∀ q, q ∈ [Reg16.sp, .bp, .si, .di] → t.r16 q = s.r16 q
  mem : ∀ r, dst = .reg r → t.mem = s.mem
  byte : Memory.wf s.mem = true → ∀ a, k = .cmp ∨ dst ≠ .mem a → t.byteAt a = s.byteAt a
  af : k = .and ∨ k = .or ∨ k = .xor → t.flags.af = s.flags.af

/-- The same at width 16. -/
structure AluFrame16 (k : AluKind) (dst : Loc16) (s t : State) : Prop where
  system : KeepsSystem s t
  error : RaisesOrKeepsError s t
  reg : ∀ q, k = .cmp ∨ dst ≠ .reg q → t.r16 q = s.r16 q
  mem : ∀ r, dst = .reg r → t.mem = s.mem
  byte : Memory.wf s.mem = true →
    ∀ a, (k = .cmp ∨ ∀ pa, dst = .mem pa → a ≠ pa ∧ a ≠ pa + 1) → t.byteAt a = s.byteAt a
  af : k = .and ∨ k = .or ∨ k = .xor → t.flags.af = s.flags.af

theorem AluFrame8.raised (k : AluKind) (dst : Loc8) (s : State) (a : Nat) :
    AluFrame8 k dst s (s.raiseError (.outOfBounds a)) where
  system := keepsSystem_raiseError s _
  error := .inr ⟨a, rfl⟩
  reg q _ := State.raiseError_r8 s _ q
  pointer q _ := State.raiseError_r16 s _ q
  mem _ _ := rfl
  byte _ b _ := State.raiseError_byteAt s _ b
  af _ := rfl

theorem AluFrame16.raised (k : AluKind) (dst : Loc16) (s : State) (a : Nat) :
    AluFrame16 k dst s (s.raiseError (.outOfBounds a)) where
  system := keepsSystem_raiseError s _
  error := .inr ⟨a, rfl⟩
  reg q _ := State.raiseError_r16 s _ q
  mem _ _ := rfl
  byte _ b _ := State.raiseError_byteAt s _ b
  af _ := rfl

/-- CMP writes no location. -/
@[simp] theorem aluDone8_cmp (s : State) (dst : Loc8) (p : Byte × FlagWrite) (len : Nat) :
    aluDone8 .cmp s dst p len = (s.setFlags (s.flags.update p.2)).advance len := rfl

@[simp] theorem aluDone16_cmp (s : State) (dst : Loc16) (p : Word × FlagWrite) (len : Nat) :
    aluDone16 .cmp s dst p len = (s.setFlags (s.flags.update p.2)).advance len := rfl

theorem AluFrame8.done (k : AluKind) (dst : Loc8) (s : State) (a b : Byte) (c : Bool) (len : Nat) :
    AluFrame8 k dst s (aluDone8 k s dst (k.fn a b c) len) where
  system := keepsSystem_aluDone8 k s dst _ len
  error := .inl (aluDone8_error k s dst _ len)
  reg := by
    rintro q (rfl | hq)
    · simp
    · unfold aluDone8
      split <;> simp [Loc8.put_r8_other _ hq]
  pointer q hq := by
    unfold aluDone8
    split <;> simp [Loc8.put_r16_pointer _ dst hq]
  mem := by
    rintro r rfl
    unfold aluDone8
    split <;> simp [Loc8.put_mem_reg]
  byte hw := by
    rintro x (rfl | hx)
    · simp
    · unfold aluDone8
      split <;> simp [Loc8.put_byteAt_other _ hw hx]
  af hk := Flags.update_af_of_none s.flags (AluKind.fn_af_of_logical a b c hk)

theorem AluFrame16.done (k : AluKind) (dst : Loc16) (s : State) (a b : Word) (c : Bool) (len : Nat) :
    AluFrame16 k dst s (aluDone16 k s dst (k.fn a b c) len) where
  system := keepsSystem_aluDone16 k s dst _ len
  error := .inl (aluDone16_error k s dst _ len)
  reg := by
    rintro q (rfl | hq)
    · simp
    · unfold aluDone16
      split <;> simp [Loc16.put_r16_other _ hq]
  mem := by
    rintro r rfl
    unfold aluDone16
    split <;> simp [Loc16.put_mem_reg]
  byte hw := by
    rintro x (rfl | hx)
    · simp
    · unfold aluDone16
      split <;> simp [Loc16.put_byteAt_other _ hw hx]
  af hk := Flags.update_af_of_none s.flags (AluKind.fn_af_of_logical a b c hk)

section
variable {k : AluKind} {s t : State}

theorem aluLoc8_frame {len : Nat} {dst src : Loc8} (h : aluLoc8 k len dst src s = .next t) :
    AluFrame8 k dst s t := by
  obtain ⟨-, -, he⟩ | ⟨pa, he⟩ := aluLoc8_cases k len dst src s <;> rw [he] at h <;> cases h
  · exact .done k dst s _ _ _ len
  · exact .raised k dst s pa

theorem aluLoc16_frame {len : Nat} {dst src : Loc16} (h : aluLoc16 k len dst src s = .next t) :
    AluFrame16 k dst s t := by
  obtain ⟨-, -, he⟩ | ⟨pa, he⟩ := aluLoc16_cases k len dst src s <;> rw [he] at h <;> cases h
  · exact .done k dst s _ _ _ len
  · exact .raised k dst s pa

/-! A form that answers a next state answers what its template does, whatever the class of its opcode. -/

theorem exec_rmR8_next {rm : Rm8} {r : Reg8} (h : exec ((aluForms k).rmR8 rm r) s = .next t) :
    aluRmR8 k rm r s = .next t := by
  cases k <;> exact (provisional_next h).2

theorem exec_rmR16_next {rm : Rm16} {r : Reg16} (h : exec ((aluForms k).rmR16 rm r) s = .next t) :
    aluRmR16 k rm r s = .next t := by
  cases k with
  | and | xor => exact h
  | add | or | adc | sbb | sub | cmp => exact (provisional_next h).2

theorem exec_rRm8_next {r : Reg8} {rm : Rm8} (h : exec ((aluForms k).rRm8 r rm) s = .next t) :
    aluRRm8 k r rm s = .next t := by
  cases k <;> exact (provisional_next h).2

theorem exec_rRm16_next {r : Reg16} {rm : Rm16} (h : exec ((aluForms k).rRm16 r rm) s = .next t) :
    aluRRm16 k r rm s = .next t := by
  cases k <;> exact (provisional_next h).2

theorem exec_alImm_next {imm : Byte} (h : exec ((aluForms k).alImm imm) s = .next t) :
    aluAlImm k imm s = .next t := by
  cases k <;> exact (provisional_next h).2

theorem exec_axImm_next {imm : Word} (h : exec ((aluForms k).axImm imm) s = .next t) :
    aluAxImm k imm s = .next t := by
  cases k <;> exact (provisional_next h).2

theorem exec_incOf_next {r : Reg16} (h : exec (incOf r) s = .next t) : incR r s = .next t := by
  cases r <;> exact (provisional_next h).2

theorem exec_decOf_next {r : Reg16} (h : exec (decOf r) s = .next t) : decR r s = .next t := by
  cases r <;> exact (provisional_next h).2

theorem exec_pushOf_next {r : Reg16} (h : exec (pushOf r) s = .next t) : pushR r s = .next t := by
  cases r <;> exact (provisional_next h).2

theorem exec_popOf_next {r : Reg16} (h : exec (popOf r) s = .next t) : popR r s = .next t := by
  cases r <;> exact (provisional_next h).2

theorem aluAlImm_frame {imm : Byte} (h : aluAlImm k imm s = .next t) : AluFrame8 k (.reg .al) s t := by
  rw [aluAlImm_ok] at h
  cases h
  exact .done k (.reg .al) s _ imm _ 2

theorem aluAxImm_frame {imm : Word} (h : aluAxImm k imm s = .next t) : AluFrame16 k (.reg .ax) s t := by
  rw [aluAxImm_ok] at h
  cases h
  exact .done k (.reg .ax) s _ imm _ 3

end

/-! ### The frame of INC, DEC, PUSH and POP -/

/-- INC and DEC: one register, the flags without CF, IP. -/
theorem incDec_frame {s t : State} {r : Reg16} (h : incR r s = .next t ∨ decR r s = .next t) :
    KeepsSystem s t ∧ t.error = s.error ∧ t.mem = s.mem ∧ t.flags.cf = s.flags.cf ∧
      ∀ q, q ≠ r → t.r16 q = s.r16 q := by
  obtain ⟨p, hcf, rfl⟩ : ∃ p : Word × FlagWrite, p.2.cf = none ∧
      t = ((s.setR16 r p.1).setFlags (s.flags.update p.2)).advance 1 := by
    obtain h | h := h <;> cases h
    · exact ⟨inc16 (s.r16 r), rfl, rfl⟩
    · exact ⟨dec16 (s.r16 r), rfl, rfl⟩
  refine ⟨(keepsSystem_setR16 s r p.1).setFlags_advance p.2 1, by simp, by simp,
    Flags.update_cf_of_none s.flags hcf, fun q hq => ?_⟩
  simp [State.setR16_r16_other s p.1 hq]

theorem pushR_frame {s t : State} {r : Reg16} (hw : Memory.wf s.mem = true) (h : pushR r s = .next t) :
    KeepsSystem s t ∧ RaisesOrKeepsError s t ∧ t.flags = s.flags ∧ (∀ q, q ≠ .sp → t.r16 q = s.r16 q) ∧
      ∀ a, a ≠ stackPA s (pushSp s) → a ≠ stackPA s (pushSp s) + 1 → t.byteAt a = s.byteAt a := by
  rw [pushR_eq] at h
  split at h <;> cases h
  · refine ⟨keepsSystem_pushDone r s, .inl (pushDone_error r s), by simp [pushDone], fun q hq => ?_,
      fun a ha ha' => ?_⟩
    · simp [pushDone, State.setR16_r16_other _ _ hq]
    · simp [pushDone, State.storeWord_byteAt_other _ hw ⟨ha, ha'⟩]
  · exact ⟨keepsSystem_raiseError s _, .inr ⟨_, rfl⟩, rfl, fun q _ => State.raiseError_r16 s _ q,
      fun a _ _ => State.raiseError_byteAt s _ a⟩

theorem popR_frame {s t : State} {r : Reg16} (h : popR r s = .next t) :
    KeepsSystem s t ∧ RaisesOrKeepsError s t ∧ t.flags = s.flags ∧ t.mem = s.mem ∧
      ∀ q, q ≠ .sp → q ≠ r → t.r16 q = s.r16 q := by
  rw [popR_eq] at h
  split at h <;> cases h
  · refine ⟨keepsSystem_popDone r s, .inl (popDone_error r s), by simp [popDone], by simp [popDone],
      fun q hq hqr => ?_⟩
    simp [popDone, State.setR16_r16_other _ _ hqr, State.setR16_r16_other _ _ hq]
  · exact ⟨keepsSystem_raiseError s _, .inr ⟨_, rfl⟩, rfl, rfl, fun q _ _ => State.raiseError_r16 s _ q⟩

end Sys2Proof.Machine
end

section
/-! The obligations on registers, machine state and frames. -/

namespace Sys2Proof.Machine

/-- Settles O44: no instruction writes TF, IF or DF, and changing them is a hidden change. -/
theorem inertFlagsAreNeitherWrittenNorRead : Obligations.InertFlagsAreNeitherWrittenNorRead := by
  unfold Obligations.InertFlagsAreNeitherWrittenNorRead
  refine ⟨fun s t h => ?_, fun s x y z => (hidden_inert s.params x y z).step_eq⟩
  obtain ⟨-, -, hflags⟩ := step_keepsUnwritten h
  exact hflags

/-- Settles O45: under FLAT, changing ES, SS and DS is a hidden change. -/
theorem flatAddressingReadsNoDataSegment : Obligations.FlatAddressingReadsNoDataSegment := by
  unfold Obligations.FlatAddressingReadsNoDataSegment
  exact fun s es ss ds hflat => (hidden_dataSegs es ss ds hflat).step_eq

/-- Settles O5: the three id maps decide every get and set, and the only error of a step is OutOfBounds. -/
theorem invalidIdsRaiseAndNoStepDoes : Obligations.InvalidIdsRaiseAndNoStepDoes := by
  unfold Obligations.InvalidIdsRaiseAndNoStepDoes
  refine ⟨fun s id v b hid => ?_, fun s id v hid => ?_, fun s id u b hid => ?_, fun s => rfl, fun s v => rfl,
    fun s t id h he => ?_⟩
  · simp [gpr16ById, gpr8ById, setGpr16ById, setGpr8ById, reg16Of_outOfRange hid, reg8Of_outOfRange hid, Except.map]
  · simp [segById, setSegById, segRegOf_outOfRange hid, Except.map]
  · simp [gpr16ById, gpr8ById, setGpr16ById, setGpr8ById, reg16Of_inRange hid, reg8Of_inRange hid, Except.map]
  · obtain ⟨a, ha⟩ := step_error_outOfBounds h he
    cases ha

/-- Settles O43: no instruction writes a segment register or a parameter. -/
theorem segmentsAndParametersNeverChange : Obligations.SegmentsAndParametersNeverChange := by
  unfold Obligations.SegmentsAndParametersNeverChange
  intro s t h
  obtain ⟨hseg, hparams, -⟩ := step_keepsUnwritten h
  exact ⟨hseg, hparams⟩

/-- Settles O58, by the frame of an ALU instruction whose destination is the resolved r/m operand. -/
theorem rmDestinationFrame : Obligations.RmDestinationFrame := by
  unfold Obligations.RmDestinationFrame
  refine fun k s t hw => ⟨fun rm r h => ?_, fun rm r h => ?_⟩
  · have hf : AluFrame8 k (resolve8 s rm) s t := aluLoc8_frame (exec_rmR8_next h)
    exact ⟨hf.system, hf.error, fun q hq => hf.reg q (hq.imp_right (resolve8_ne_reg s)), hf.pointer, hf.byte hw,
      hf.af⟩
  · have hf : AluFrame16 k (resolve16 s rm) s t := aluLoc16_frame (exec_rmR16_next h)
    exact ⟨hf.system, hf.error, fun q hq => hf.reg q (hq.imp_right (resolve16_ne_reg s)), hf.byte hw, hf.af⟩

/-- Settles O59, by the frame of an ALU instruction whose destination is a register. -/
theorem registerDestinationFrame : Obligations.RegisterDestinationFrame := by
  unfold Obligations.RegisterDestinationFrame
  refine fun k s t => ⟨fun r i hi h => ?_, fun r i hi h => ?_⟩
  · have hf : AluFrame8 k (.reg r) s t := by
      obtain ⟨rm, rfl⟩ | ⟨rfl, imm, rfl⟩ := hi
      · exact aluLoc8_frame (exec_rRm8_next h)
      · exact aluAlImm_frame (exec_alImm_next h)
    exact ⟨hf.system, hf.error, hf.mem r rfl, fun q hq => hf.reg q (hq.imp_right (Loc8.reg_ne_reg r)), hf.pointer, hf.af⟩
  · have hf : AluFrame16 k (.reg r) s t := by
      obtain ⟨rm, rfl⟩ | ⟨rfl, imm, rfl⟩ := hi
      · exact aluLoc16_frame (exec_rRm16_next h)
      · exact aluAxImm_frame (exec_axImm_next h)
    exact ⟨hf.system, hf.error, hf.mem r rfl, fun q hq => hf.reg q (hq.imp_right (Loc16.reg_ne_reg r)), hf.af⟩

/-- Settles O60, by the frames of the four templates. -/
theorem incDecAndStackFrame : Obligations.IncDecAndStackFrame := by
  unfold Obligations.IncDecAndStackFrame
  exact fun r s t hw =>
    ⟨fun h => incDec_frame (h.imp exec_incOf_next exec_decOf_next), fun h => pushR_frame hw (exec_pushOf_next h),
      fun h => popR_frame (exec_popOf_next h)⟩

/-- Settles O1: a byte write is a word write of the parent with one half replaced. -/
theorem byteRegisterWriteChangesOnlyItsHalf : Obligations.ByteRegisterWriteChangesOnlyItsHalf := by
  unfold Obligations.ByteRegisterWriteChangesOnlyItsHalf
  exact fun s r v => ⟨State.setR16_r16_same s (Reg8.parent r) _, fun q hq => State.setR8_r8_other s v hq,
    fun q hq => State.setR8_r16_other s v hq, State.setR16_restore_gpr s (Reg8.parent r) _⟩

/-- Settles O2: each half read is a half of the word written. -/
theorem wordRegisterWriteSetsBothHalves : Obligations.WordRegisterWriteSetsBothHalves := by
  unfold Obligations.WordRegisterWriteSetsBothHalves
  refine fun s r v => ⟨State.setR16_r16_same s r v, fun lo hi hlo hhi hlow hhigh => ?_,
    fun q hq => State.setR16_r16_other s v hq, State.setR16_restore_gpr s r v⟩
  have hl : (s.setR16 r v).r8 lo = loByte v := by simp [State.r8, hlo, hlow]
  have hh : (s.setR16 r v).r8 hi = hiByte v := by simp [State.r8, hhi, hhigh]
  exact ⟨hl, hh, by rw [hl, hh, joinBytes_hiByte_loByte]⟩

/-- Settles O3: no byte register has SP, BP, SI or DI as its parent. -/
theorem pointerRegistersHaveNoByteAccess : Obligations.PointerRegistersHaveNoByteAccess := by
  unfold Obligations.PointerRegistersHaveNoByteAccess
  refine fun s p hp r v u => ⟨State.setR8_r16_pointer s r v hp, ?_⟩
  have hne : Reg8.parent r ≠ p := fun h => Reg8.parent_not_pointer r (h ▸ hp)
  simp only [State.r8, State.setR16_r16_other s u hne]

/-- Settles O4, by evaluating the accessors at each id. -/
theorem registerIdsNameTheirRegisters : Obligations.RegisterIdsNameTheirRegisters := by
  unfold Obligations.RegisterIdsNameTheirRegisters
  exact fun s => ⟨rfl, rfl, fun v => rfl, fun v => rfl⟩

/-- Settles O6: CS and IP are at most 0xFFFF each. -/
theorem physicalIpIsDerivedFromCsAndIp : Obligations.PhysicalIpIsDerivedFromCsAndIp := by
  unfold Obligations.PhysicalIpIsDerivedFromCsAndIp
  refine fun s => ⟨rfl, ?_, fun t hcs hip => ?_⟩
  · have hcs := s.seg.cs.isLt
    have hip := s.ip.isLt
    unfold State.physIp
    omega
  · simp only [State.physIp, hcs, hip]

end Sys2Proof.Machine
end

section
/-! The memory interface by its bounds, what is read back after a write, and the addresses of data and stack
(20_memory.md R51 to R58, R61, R62, R69; 40_operand_resolver.md R102, R106, R108). -/

namespace Sys2Proof.Machine

/-! ### The four accessors by the bounds of the address -/

theorem State.byteInBounds_iff {s : State} {a : Nat} : s.byteInBounds a = true ↔ a < s.params.memSize := by
  simp [State.byteInBounds]

theorem State.wordInBounds_iff {s : State} {a : Nat} : s.wordInBounds a = true ↔ a + 1 < s.params.memSize := by
  simp only [State.wordInBounds, Bool.and_eq_true, decide_eq_true_eq]
  omega

theorem memRead8_of_lt {s : State} {a : Nat} (h : a < s.params.memSize) : memRead8 s a = .ok (s.byteAt a) :=
  if_pos (State.byteInBounds_iff.mpr h)

theorem memRead8_of_ge {s : State} {a : Nat} (h : a ≥ s.params.memSize) : memRead8 s a = .error (.outOfBounds a) :=
  if_neg (mt State.byteInBounds_iff.mp (Nat.not_lt.mpr h))

theorem memRead16_of_lt {s : State} {a : Nat} (h : a + 1 < s.params.memSize) : memRead16 s a = .ok (s.wordAt a) :=
  if_pos (State.wordInBounds_iff.mpr h)

theorem memRead16_of_ge {s : State} {a : Nat} (h : a + 1 ≥ s.params.memSize) :
    memRead16 s a = .error (.outOfBounds a) :=
  if_neg (mt State.wordInBounds_iff.mp (Nat.not_lt.mpr h))

theorem memWrite8_of_lt {s : State} {a : Nat} (v : Byte) (h : a < s.params.memSize) :
    memWrite8 s a v = .ok (s.storeByte a v) :=
  if_pos (State.byteInBounds_iff.mpr h)

theorem memWrite8_of_ge {s : State} {a : Nat} (v : Byte) (h : a ≥ s.params.memSize) :
    memWrite8 s a v = .error (.outOfBounds a) :=
  if_neg (mt State.byteInBounds_iff.mp (Nat.not_lt.mpr h))

theorem memWrite16_of_lt {s : State} {a : Nat} (v : Word) (h : a + 1 < s.params.memSize) :
    memWrite16 s a v = .ok (s.storeWord a v) :=
  if_pos (State.wordInBounds_iff.mpr h)

theorem memWrite16_of_ge {s : State} {a : Nat} (v : Word) (h : a + 1 ≥ s.params.memSize) :
    memWrite16 s a v = .error (.outOfBounds a) :=
  if_neg (mt State.wordInBounds_iff.mp (Nat.not_lt.mpr h))

/-! ### The bytes of a stored byte and of a stored word -/

theorem State.storeByte_byteAt_same {s : State} (a : Nat) (v : Byte) (hw : Memory.wf s.mem = true) :
    (s.storeByte a v).byteAt a = v :=
  (State.storeByte_byteAt a a v hw).trans (if_pos rfl)

theorem State.storeByte_byteAt_other {s : State} {a x : Nat} (v : Byte) (hw : Memory.wf s.mem = true) (h : x ≠ a) :
    (s.storeByte a v).byteAt x = s.byteAt x :=
  (State.storeByte_byteAt a x v hw).trans (if_neg h)

theorem State.storeWord_byteAt_low {s : State} (a : Nat) (v : Word) (hw : Memory.wf s.mem = true) :
    (s.storeWord a v).byteAt a = loByte v := by
  simp [State.storeWord_byteAt a a v hw]

theorem State.storeWord_byteAt_high {s : State} (a : Nat) (v : Word) (hw : Memory.wf s.mem = true) :
    (s.storeWord a v).byteAt (a + 1) = hiByte v := by
  simp [State.storeWord_byteAt a (a + 1) v hw]

theorem State.storeByte_restore_mem (s : State) (a : Nat) (v : Byte) : { s.storeByte a v with mem := s.mem } = s := rfl

theorem State.storeWord_restore_mem (s : State) (a : Nat) (v : Word) : { s.storeWord a v with mem := s.mem } = s := rfl

/-! ### Reads after writes -/

section
variable {s t : State} {a : Nat}

theorem memRead8_of_memWrite8 {v : Byte} (hw : Memory.wf s.mem = true) (h : memWrite8 s a v = .ok t) :
    memRead8 t a = .ok v := by
  obtain ⟨hb, rfl⟩ := memWrite8_ok h
  rw [memRead8_of_lt (by simpa using hb), State.storeByte_byteAt_same a v hw]

theorem memRead8_low_of_memWrite16 {v : Word} (hw : Memory.wf s.mem = true) (h : memWrite16 s a v = .ok t) :
    memRead8 t a = .ok (loByte v) := by
  obtain ⟨hb, rfl⟩ := memWrite16_ok h
  rw [memRead8_of_lt (by simpa using Nat.lt_of_succ_lt hb), State.storeWord_byteAt_low a v hw]

theorem memRead8_high_of_memWrite16 {v : Word} (hw : Memory.wf s.mem = true) (h : memWrite16 s a v = .ok t) :
    memRead8 t (a + 1) = .ok (hiByte v) := by
  obtain ⟨hb, rfl⟩ := memWrite16_ok h
  rw [memRead8_of_lt (by simpa using hb), State.storeWord_byteAt_high a v hw]

/-- The second byte write leaves the first byte alone. -/
theorem memRead16_of_memWrite8_memWrite8 {u : State} {b0 b1 : Byte} (hw : Memory.wf s.mem = true)
    (h0 : memWrite8 s a b0 = .ok t) (h1 : memWrite8 t (a + 1) b1 = .ok u) :
    memRead16 u a = .ok (joinBytes b1 b0) := by
  obtain ⟨-, rfl⟩ := memWrite8_ok h0
  obtain ⟨hb, rfl⟩ := memWrite8_ok h1
  have hw' := State.storeByte_wf a b0 hw
  rw [memRead16_of_lt (by simpa using hb), State.wordAt, State.storeByte_byteAt_same (a + 1) b1 hw',
    State.storeByte_byteAt_other b1 hw' (Nat.ne_of_lt a.lt_succ_self), State.storeByte_byteAt_same a b0 hw]

/-! ### The fetch after a store: a store moves neither IP nor PHYS_IP -/

theorem memWrite8_keepsIp {v : Byte} (h : memWrite8 s a v = .ok t) : t.ip = s.ip ∧ t.physIp = s.physIp := by
  obtain ⟨-, rfl⟩ := memWrite8_ok h
  exact ⟨rfl, rfl⟩

theorem memWrite16_keepsIp {v : Word} (h : memWrite16 s a v = .ok t) : t.ip = s.ip ∧ t.physIp = s.physIp := by
  obtain ⟨-, rfl⟩ := memWrite16_ok h
  exact ⟨rfl, rfl⟩

/-- The fetch of an instruction byte is a byte read at its address (R163). -/
theorem instrByte_of_memRead8 {n : Nat} {b : Byte} (hkeep : t.ip = s.ip ∧ t.physIp = s.physIp)
    (hn : s.ip.toNat + n ≤ 0xFFFF) (hr : memRead8 t (s.physIp + n) = .ok b) : instrByte t n = .ok b := by
  obtain ⟨hip, hphys⟩ := hkeep
  rw [← hphys] at hr
  obtain ⟨hb, rfl⟩ := memRead8_ok hr
  exact instrByte_ok (hip ▸ hn) hb

end

/-! ### The addresses of data and stack -/

section
variable {s : State}

theorem dataPA_flat (h : s.params.dataAddressing = .flat) (ea : Word) (g : SegReg) : dataPA s ea g = ea.toNat := by
  simp [dataPA, h]

theorem dataPA_segmented (h : s.params.dataAddressing = .segmented) (ea : Word) (g : SegReg) :
    dataPA s ea g = (s.sreg g).toNat * 16 + ea.toNat := by
  simp [dataPA, h]

theorem stackPA_flat (h : s.params.dataAddressing = .flat) (sp : Word) : stackPA s sp = sp.toNat := by
  simp [stackPA, h]

theorem stackPA_segmented (h : s.params.dataAddressing = .segmented) (sp : Word) :
    stackPA s sp = s.seg.ss.toNat * 16 + sp.toNat := by
  simp [stackPA, h, State.sreg]

/-- A displacement does not change the segment of a memory operand: its base sum gives it (R102). -/
theorem operandSeg_eq_baseSeg {b : Base} {m : MemOperand}
    (h : m = .plain b ∨ (∃ d, m = .disp8 b d) ∨ (∃ d, m = .disp16 b d)) : operandSeg m = baseSeg b := by
  obtain rfl | ⟨d, rfl⟩ | ⟨d, rfl⟩ := h <;> rfl

theorem baseSeg_ss : ∀ b ∈ [Base.bpSi, .bpDi, .bp], baseSeg b = .ss := by decide

theorem baseSeg_ds : ∀ b ∈ [Base.bxSi, .bxDi, .si, .di, .bx], baseSeg b = .ds := by decide

theorem operandPA_ss {m : MemOperand} (h : s.params.dataAddressing = .segmented) (hg : operandSeg m = .ss) :
    operandPA s m = s.seg.ss.toNat * 16 + (effAddr s m).toNat := by
  simp only [operandPA, hg, dataPA_segmented h, State.sreg]

theorem operandPA_ds {m : MemOperand} (h : s.params.dataAddressing = .segmented) (hg : operandSeg m = .ds) :
    operandPA s m = s.seg.ds.toNat * 16 + (effAddr s m).toNat := by
  simp only [operandPA, hg, dataPA_segmented h, State.sreg]

end

end Sys2Proof.Machine
end

section
/-! The obligations on memory and on the addresses of data and stack. -/

namespace Sys2Proof.Machine

/-- Settles O10: below MEM_SIZE a write is the store of its bytes, and from it on the error. -/
theorem memoryWritesChangeTheirBytes : Obligations.MemoryWritesChangeTheirBytes := by
  unfold Obligations.MemoryWritesChangeTheirBytes
  refine fun s hw a => ⟨fun v => ⟨fun h => memWrite8_of_ge v h, fun h => ?_⟩,
    fun v => ⟨fun h => memWrite16_of_ge v (by omega), fun h => ?_⟩⟩
  · exact ⟨_, memWrite8_of_lt v h, State.storeByte_restore_mem s a v, State.storeByte_byteAt_same a v hw,
      fun x hx => State.storeByte_byteAt_other v hw hx⟩
  · exact ⟨_, memWrite16_of_lt v h, State.storeWord_restore_mem s a v, State.storeWord_byteAt_low a v hw,
      State.storeWord_byteAt_high a v hw, fun x hx hx1 => State.storeWord_byteAt_other v hw ⟨hx, hx1⟩⟩

/-- Settles O11: the reads after one word write and after two byte writes. -/
theorem mixedWidthAccessesAreLittleEndian : Obligations.MixedWidthAccessesAreLittleEndian := by
  unfold Obligations.MixedWidthAccessesAreLittleEndian
  exact fun s hw a =>
    ⟨fun v t h => ⟨memRead8_low_of_memWrite16 hw h, memRead8_high_of_memWrite16 hw h⟩,
      fun b0 b1 t u h0 h1 => memRead16_of_memWrite8_memWrite8 hw h0 h1⟩

/-- Settles O12: the fetch reads the byte that the store has put there, at an address the store does not move. -/
theorem storedBytesAreFetched : Obligations.StoredBytesAreFetched := by
  unfold Obligations.StoredBytesAreFetched
  refine fun s t n hw hn => ⟨fun v h => ?_, fun v h => ?_, fun v a ha h => ?_⟩
  · exact instrByte_of_memRead8 (memWrite8_keepsIp h) hn (memRead8_of_memWrite8 hw h)
  · exact instrByte_of_memRead8 (memWrite16_keepsIp h) hn (memRead8_low_of_memWrite16 hw h)
  · exact instrByte_of_memRead8 (memWrite16_keepsIp h) hn (ha ▸ memRead8_high_of_memWrite16 hw h)

/-- Settles O9, by the bounds of the address; a word's second byte is the one that can lie outside alone. -/
theorem memoryReadsAreBounded : Obligations.MemoryReadsAreBounded := by
  unfold Obligations.MemoryReadsAreBounded
  refine fun s a => ⟨?_, ?_⟩
  · split
    · next h => exact memRead8_of_ge h
    · next h => exact memRead8_of_lt (by omega)
  · split
    · next h => exact memRead16_of_ge (by omega)
    · next h => exact memRead16_of_lt (by omega)

/-- Settles O24: the two settings of DATA_ADDRESSING, and the segment that the base sum gives an operand. -/
theorem dataAndStackAddresses : Obligations.DataAndStackAddresses := by
  unfold Obligations.DataAndStackAddresses
  refine fun s => ⟨fun hf => ?_, fun hs => ?_⟩
  · exact ⟨dataPA_flat hf, stackPA_flat hf, fun m => dataPA_flat hf _ _⟩
  · refine ⟨fun ea => ?_, stackPA_segmented hs, fun b hb m hm => ?_, fun b hb m hm => ?_, fun a => ?_⟩
    · exact ⟨dataPA_segmented hs ea .es, dataPA_segmented hs ea .cs, dataPA_segmented hs ea .ss,
        dataPA_segmented hs ea .ds⟩
    · exact operandPA_ss hs ((operandSeg_eq_baseSeg hm).trans (baseSeg_ss b hb))
    · exact operandPA_ds hs ((operandSeg_eq_baseSeg hm).trans (baseSeg_ds b hb))
    · exact operandPA_ds (m := .direct a) hs rfl

end Sys2Proof.Machine
end

section
/-! The register-to-register form 1 (30_encoding.md R72, R79, R88) and the opcode classes (30_encoding.md R80): which
bytes each class has, and which entries of the table. -/

namespace Sys2Proof

open Machine

/-! ### Form 1: its table entry, its encoding and its decoding -/

section
variable (p : Mod00Rm110) (k : AluKind) (dst src : Reg16)

theorem opcode_rmR16 (rm : Rm16) (r : Reg16) :
    ((aluForms k).rmR16 rm r).opcode = BitVec.ofNat 8 (kindNumber k * 8 + 1) := by cases k <;> rfl

theorem shapeOf_rmR16 (rm : Rm16) (r : Reg16) :
    shapeOf ((aluForms k).rmR16 rm r).opcode = .mode16 (aluForms k).rmR16 := by
  rw [opcode_rmR16]
  cases k <;> rfl

theorem operandBytes_rmR16 (rm : Rm16) (r : Reg16) :
    ((aluForms k).rmR16 rm r).operandBytes = rm.encode r := by cases k <;> rfl

theorem encode_rmR16_reg :
    encode ((aluForms k).rmR16 (.reg dst) src) =
      [((aluForms k).rmR16 (.reg dst) src).opcode, modeByte 0b11#2 src.id dst.id] := by
  simp [encode, operandBytes_rmR16, Rm16.encode]

/-- mod 11 selects the register of the rm field, and takes no displacement byte (R75). -/
theorem decodeRm_register {ε : Type} (ib : Nat → Except ε Byte) (reg rm : Field3) :
    decodeRm p ib (modeByte 0b11#2 reg rm) = .ok (.reg rm) := by
  simp [decodeRm]

theorem decode_encode_rmR16_reg :
    decode p (encode ((aluForms k).rmR16 (.reg dst) src)) = .ok ((aluForms k).rmR16 (.reg dst) src) := by
  simp [encode_rmR16_reg, decode, byteAt, decodeOperands, shapeOf_rmR16, decodeRm_register, Except.bind,
    RmOperand.at16]

end

/-! ### The bytes of the class ranges (R80) -/

section
variable {n : Nat}

@[simp] theorem inRanges_nil : inRanges [] n = false := rfl

@[simp] theorem inRanges_cons_iff {r : Nat × Nat} {rs : List (Nat × Nat)} :
    inRanges (r :: rs) n = true ↔ (r.1 ≤ n ∧ n ≤ r.2) ∨ inRanges rs n = true := by
  simp [inRanges]

theorem inRanges_settled_iff : inRanges settledRanges n = true ↔ n = 0x21 ∨ n = 0x31 ∨ n = 0xF4 := by
  simp only [settledRanges, inRanges_cons_iff, inRanges_nil, Bool.false_eq_true, or_false]
  omega

theorem inRanges_provisional_iff : inRanges provisionalRanges n = true ↔
    (0x00 ≤ n ∧ n ≤ 0x05) ∨ (0x08 ≤ n ∧ n ≤ 0x0D) ∨ (0x10 ≤ n ∧ n ≤ 0x15) ∨ (0x18 ≤ n ∧ n ≤ 0x1D) ∨ n = 0x20 ∨
    (0x22 ≤ n ∧ n ≤ 0x25) ∨ (0x28 ≤ n ∧ n ≤ 0x2D) ∨ n = 0x30 ∨ (0x32 ≤ n ∧ n ≤ 0x35) ∨ (0x38 ≤ n ∧ n ≤ 0x3D) ∨
    (0x40 ≤ n ∧ n ≤ 0x5F) := by
  simp only [provisionalRanges, inRanges_cons_iff, inRanges_nil, Bool.false_eq_true, or_false]
  omega

theorem inRanges_unsettled_iff : inRanges unsettledRanges n = true ↔
    n = 0x06 ∨ n = 0x07 ∨ n = 0x0E ∨ n = 0x0F ∨ n = 0x16 ∨ n = 0x17 ∨ n = 0x1E ∨ n = 0x1F ∨ n = 0x2F ∨ n = 0x37 ∨
    n = 0x3F ∨ (0x80 ≤ n ∧ n ≤ 0x85) ∨ n = 0x8F ∨ n = 0x9C ∨ n = 0x9D ∨ n = 0xA8 ∨ n = 0xA9 ∨
    (0xD0 ≤ n ∧ n ≤ 0xD5) ∨ n = 0xF6 ∨ n = 0xF7 ∨ n = 0xFE ∨ n = 0xFF := by
  simp only [unsettledRanges, inRanges_cons_iff, inRanges_nil, Bool.false_eq_true, or_false]
  omega

theorem not_provisional_of_settled (h : inRanges settledRanges n = true) : inRanges provisionalRanges n = false := by
  rw [← Bool.not_eq_true, inRanges_provisional_iff]
  rw [inRanges_settled_iff] at h
  omega

theorem not_unsettled_of_settled_or_provisional
    (h : inRanges settledRanges n = true ∨ inRanges provisionalRanges n = true) :
    inRanges unsettledRanges n = false := by
  rw [← Bool.not_eq_true, inRanges_unsettled_iff]
  rw [inRanges_settled_iff, inRanges_provisional_iff] at h
  omega

end

/-! ### The class of a byte: the ranges are disjoint, so the order in which `classOf` asks them does not matter -/

section
variable {op : Byte}

theorem classOf_eq_settled_iff : classOf op = .settled ↔ inRanges settledRanges op.toNat = true := by
  unfold classOf
  split_ifs <;> simp [*]

theorem classOf_eq_provisional_iff : classOf op = .provisional ↔ inRanges provisionalRanges op.toNat = true := by
  unfold classOf
  split_ifs <;> simp [*, not_provisional_of_settled]

theorem classOf_eq_unsettled_iff : classOf op = .unsettled ↔ inRanges unsettledRanges op.toNat = true := by
  unfold classOf
  split_ifs <;> simp [*, not_unsettled_of_settled_or_provisional]

theorem classOf_eq_unimplemented_iff : classOf op = .unimplemented ↔
    ¬ (inRanges settledRanges op.toNat = true ∨ inRanges provisionalRanges op.toNat = true ∨
      inRanges unsettledRanges op.toNat = true) := by
  unfold classOf
  split_ifs <;> simp [*]

end

/-! ### Counting by the rows of the opcode map (R80) -/

theorem range_mul_eq_flatMap (m n : Nat) :
    List.range (m * n) = (List.range m).flatMap fun i => (List.range n).map (i * n + ·) := by
  induction m with
  | zero => simp
  | succ m ih => rw [Nat.succ_mul, List.range_add, ih, List.range_succ, List.flatMap_append, List.flatMap_singleton]

theorem countP_range_256 (p : Nat → Bool) :
    (List.range 256).countP p =
      ((List.range 16).map fun hi => (List.range 16).countP fun lo => p (hi * 16 + lo)).sum := by
  rw [show 256 = 16 * 16 from rfl, range_mul_eq_flatMap, List.countP_flatMap]
  simp only [Function.comp_def, List.countP_map]

/-! ### The table's entries by class (R81) -/

/-- The class that an entry of the table is for, where the entry tells it: none for an entry with an operation. -/
def Shape.classWithoutOperation : Shape → Option OpClass
  | .absent _ => some .unimplemented
  | .unsettled _ => some .unsettled
  | _ => none

theorem Shape.classWithoutOperation_eq_unimplemented_iff {sh : Shape} :
    sh.classWithoutOperation = some .unimplemented ↔ ∃ i, sh = .absent i := by
  cases sh <;> simp [classWithoutOperation]

theorem Shape.classWithoutOperation_eq_unsettled_iff {sh : Shape} :
    sh.classWithoutOperation = some .unsettled ↔ ∃ i, sh = .unsettled i := by
  cases sh <;> simp [classWithoutOperation]

theorem classOf_iff_classWithoutOperation_shapeOf : ∀ op : Byte,
    (classOf op = .unimplemented ↔ (shapeOf op).classWithoutOperation = some .unimplemented) ∧
    (classOf op = .unsettled ↔ (shapeOf op).classWithoutOperation = some .unsettled) := by
  decide

end Sys2Proof
end

section
/-! The obligations on the encoding. -/

namespace Sys2Proof

open Machine

/-- Settles O28: the source's words are encodings of the form, so they decode as every encoding of it does. -/
theorem registerFormsEncodeAsTheSpecSays : Obligations.RegisterFormsEncodeAsTheSpecSays := by
  unfold Obligations.RegisterFormsEncodeAsTheSpecSays
  exact ⟨encode_rmR16_reg, decode_encode_rmR16_reg _ .xor .ax .bx, decode_encode_rmR16_reg _ .xor .bx .bx,
    decode_encode_rmR16_reg _ .and .ax .bx⟩

/-- Settles O31: the counts row by row of the opcode map, the members from the disjoint ranges of `classOf`, and the
table's entries of the two classes without an operation byte by byte. -/
theorem opcodeClassesMatchTheTable : Obligations.OpcodeClassesMatchTheTable := by
  unfold Obligations.OpcodeClassesMatchTheTable
  simp only [countP_range_256]
  refine ⟨by decide, by decide, by decide, by decide, fun op => ⟨?_, ?_, ?_, ?_⟩, fun op => ?_⟩
  · rw [classOf_eq_settled_iff, inRanges_settled_iff]
  · rw [classOf_eq_provisional_iff, inRanges_provisional_iff]
  · rw [classOf_eq_unsettled_iff, inRanges_unsettled_iff]
  · rw [classOf_eq_unimplemented_iff, inRanges_settled_iff, inRanges_provisional_iff, inRanges_unsettled_iff]
    omega
  · rw [← Shape.classWithoutOperation_eq_unimplemented_iff, ← Shape.classWithoutOperation_eq_unsettled_iff]
    exact classOf_iff_classWithoutOperation_shapeOf op

end Sys2Proof
end

section
/-! The operand resolver: a resolved location read back after a write of it, and the arithmetic of the effective address
(40_operand_resolver.md R104 to R107, R110, R111, R113). -/

namespace Sys2Proof.Machine

/-! ### A location after a write of it -/

section
variable {s : State}

/-- A write moves no bound: it leaves MEM_SIZE alone. -/
@[simp] theorem Loc8.put_inBounds (v : Byte) (l m : Loc8) : m.inBounds (l.put s v) = m.inBounds s := by
  cases m with
  | reg r => rfl
  | mem pa => simp [Loc8.inBounds, State.byteInBounds]

@[simp] theorem Loc16.put_inBounds (v : Word) (l m : Loc16) : m.inBounds (l.put s v) = m.inBounds s := by
  cases m with
  | reg r => rfl
  | mem pa => simp [Loc16.inBounds, State.wordInBounds]

theorem Loc8.value_put_same (v : Byte) (l : Loc8) (hw : Memory.wf s.mem = true) : l.value (l.put s v) = v := by
  cases l with
  | reg r => exact State.setR8_r8_same s r v
  | mem pa => exact State.storeByte_byteAt_same pa v hw

theorem Loc16.value_put_same (v : Word) (l : Loc16) (hw : Memory.wf s.mem = true) : l.value (l.put s v) = v := by
  cases l with
  | reg r => exact State.setR16_r16_same s r v
  | mem pa => exact State.storeWord_wordAt pa v hw

/-- R113 for every location in bounds, whatever operand it was resolved from. -/
theorem readLoc8_put_same {l : Loc8} (v : Byte) (hw : Memory.wf s.mem = true) (hb : l.inBounds s = true) :
    readLoc8 (l.put s v) l = .ok v := by
  rw [readLoc8_inBounds (by simpa using hb), Loc8.value_put_same v l hw]

theorem readLoc16_put_same {l : Loc16} (v : Word) (hw : Memory.wf s.mem = true) (hb : l.inBounds s = true) :
    readLoc16 (l.put s v) l = .ok v := by
  rw [readLoc16_inBounds (by simpa using hb), Loc16.value_put_same v l hw]

end

/-! ### The effective address -/

/-- Zero extension keeps the number that an 8-bit displacement is (R104), so the addition is the only wrap (R107). -/
theorem effAddr_disp8_toNat (s : State) (b : Base) (d : Byte) :
    (effAddr s (.disp8 b d)).toNat = ((baseSum s b).toNat + d.toNat) % 2 ^ 16 := by
  rw [effAddr, BitVec.toNat_add, BitVec.toNat_setWidth_of_le (by decide)]

theorem effAddr_disp16_toNat (s : State) (b : Base) (d : Word) :
    (effAddr s (.disp16 b d)).toNat = ((baseSum s b).toNat + d.toNat) % 2 ^ 16 :=
  BitVec.toNat_add _ _

end Sys2Proof.Machine
end

section
/-! The obligations on the operand resolver and on the words written out from the spec. -/

namespace Sys2Proof.Machine

/-- Settles O25: the write of a location in bounds is its `put`, after which the location is in bounds and has the
value. -/
theorem locationRoundTrip : Obligations.LocationRoundTrip := by
  unfold Obligations.LocationRoundTrip
  exact fun s hw =>
    ⟨fun rm v hb => ⟨_, writeLoc8_inBounds v hb, readLoc8_put_same v hw hb⟩,
      fun rm v hb => ⟨_, writeLoc16_inBounds v hb, readLoc16_put_same v hw hb⟩⟩

/-- Settles O23: four base sums add two registers and wrap; the other four are one register, which is below 2^16. -/
theorem effectiveAddressWrapsAt16Bits : Obligations.EffectiveAddressWrapsAt16Bits := by
  unfold Obligations.EffectiveAddressWrapsAt16Bits
  refine fun s => ⟨fun b => ?_, fun b => rfl, effAddr_disp8_toNat s, effAddr_disp16_toNat s, fun a => rfl⟩
  cases b with
  | bxSi | bxDi | bpSi | bpDi => exact BitVec.toNat_add _ _
  | si | di | bp | bx => exact (Nat.mod_eq_of_lt (BitVec.isLt _)).symm

end Sys2Proof.Machine

namespace Sys2Proof

/-- Settles O29: 27 fixed words, each run through the decoder. -/
theorem specWordsDecode : Obligations.SpecWordsDecode := by
  unfold Obligations.SpecWordsDecode
  decide

end Sys2Proof
end

section
/-! The ALU with its carry-in (41_alu_flags.md R136, R137): a subtraction is an addition read backwards, a = r + b + c,
so AF and OF of `sbbW` are what they are of that addition. -/

namespace Sys2Proof.Machine

variable {w : Nat}

/-! ### Results -/

/-- A carry-in as a word, in the form of the library's facts on carries. -/
def carryIn (w : Nat) (c : Bool) : BitVec w := (BitVec.ofBool c).setWidth w

theorem ofNat_toNat_eq_carryIn (c : Bool) : BitVec.ofNat w c.toNat = carryIn w c := by
  rw [carryIn, ← BitVec.ofNat_toNat, BitVec.toNat_ofBool]

theorem adcW_fst (a b : BitVec w) (c : Bool) : (adcW a b c).1 = a + b + carryIn w c := by
  simp [adcW, BitVec.ofNat_add, ofNat_toNat_eq_carryIn]

theorem sbbW_fst (a b : BitVec w) (c : Bool) : (sbbW a b c).1 = a - b - carryIn w c := by
  rw [sbbW, ofNat_toNat_eq_carryIn]

/-- The minuend is the sum of the difference, the subtrahend and the borrow-in. -/
theorem sbbW_fst_add (a b : BitVec w) (c : Bool) : (sbbW a b c).1 + b + carryIn w c = a := by
  rw [sbbW_fst, sub_add_eq_add_sub, sub_add_cancel, sub_add_cancel]

theorem adcW_false (a b : BitVec w) : adcW a b false = addW a b := rfl

theorem sbbW_false (a b : BitVec w) : sbbW a b false = subW a b := by
  simp [sbbW, subW]

/-! ### AF is the carry into bit 4 (R139) -/

/-- Bit 4 of a sum is a[4] ^ b[4] ^ the carry into bit 4. -/
theorem auxFlag_add (hw : 4 < w) (a b : BitVec w) (c : Bool) :
    auxFlag a b (a + b + carryIn w c) = decide (16 ≤ a.toNat % 16 + b.toNat % 16 + c.toNat) := by
  change _ = BitVec.carry 4 a b c
  rw [auxFlag, BitVec.getLsbD_xor, BitVec.getLsbD_xor, carryIn, BitVec.getLsbD_add_add_bool hw]
  cases a.getLsbD 4 <;> cases b.getLsbD 4 <;> simp

theorem auxFlag_rotate (a b r : BitVec w) : auxFlag a b r = auxFlag r b a := by
  rw [auxFlag, auxFlag, BitVec.xor_comm _ r, BitVec.xor_comm a b, ← BitVec.xor_assoc]

/-- 16 divides 2^w, so the low digit of a sum is found from the low digits alone. -/
theorem toNat_add_carryIn_mod_16 (hw : 4 < w) (a b : BitVec w) (c : Bool) :
    (a + b + carryIn w c).toNat % 16 = (a.toNat % 16 + b.toNat % 16 + c.toNat) % 16 := by
  have hdvd : 16 ∣ 2 ^ w := Nat.pow_dvd_pow 2 (Nat.le_of_lt hw)
  rw [← ofNat_toNat_eq_carryIn]
  simp [BitVec.toNat_add, Nat.mod_mod_of_dvd _ hdvd, Nat.add_mod]

theorem adcW_af (hw : 4 < w) (a b : BitVec w) (c : Bool) :
    (adcW a b c).2.af = some (decide (16 ≤ a.toNat % 16 + b.toNat % 16 + c.toNat)) :=
  calc (adcW a b c).2.af
    _ = some (auxFlag a b (adcW a b c).1) := rfl
    _ = _ := by rw [adcW_fst, auxFlag_add hw]

theorem sbbW_af (hw : 4 < w) (a b : BitVec w) (c : Bool) :
    (sbbW a b c).2.af = some (decide (a.toNat % 16 < b.toNat % 16 + c.toNat)) := by
  have hcarry := auxFlag_add hw (sbbW a b c).1 b c
  have hdigit := toNat_add_carryIn_mod_16 hw (sbbW a b c).1 b c
  rw [sbbW_fst_add] at hcarry hdigit
  have hc := c.toNat_le
  calc (sbbW a b c).2.af
    _ = some (auxFlag a b (sbbW a b c).1) := rfl
    _ = some (decide (16 ≤ (sbbW a b c).1.toNat % 16 + b.toNat % 16 + c.toNat)) := by
      rw [auxFlag_rotate, hcarry]
    _ = _ := congrArg some (decide_eq_decide.mpr (by omega))

/-! ### OF is two's-complement overflow (R141) -/

theorem toInt_add_carryIn (a b : BitVec w) (c : Bool) :
    (a + b + carryIn w c).toInt = (a.toInt + b.toInt + c.toNat).bmod (2 ^ w) := by
  rw [← BitVec.toInt_ofInt, BitVec.ofInt_add, BitVec.ofInt_add, BitVec.ofInt_toInt, BitVec.ofInt_toInt,
    BitVec.ofInt_natCast, ofNat_toNat_eq_carryIn]

/-- A sum that is at most one modulus out of range wraps once. -/
theorem bmod_eq_wrap {s : Int} {m : Nat} (hlo : -(3 * m) ≤ 2 * s) (hhi : 2 * s < 3 * m) :
    s.bmod m = if 2 * s < -m then s + m else if m ≤ 2 * s then s - m else s := by
  split
  · rw [← Int.add_bmod_right, Int.bmod_eq_of_le_mul_two] <;> omega
  split
  · rw [← Int.sub_bmod_right, Int.bmod_eq_of_le_mul_two] <;> omega
  · rw [Int.bmod_eq_of_le_mul_two] <;> omega

/-- A sum with carry-in wraps exactly when both operands have the sign that the wrapped sum has not. -/
theorem bmod_ne_iff_signs {x y : Int} {m c : Nat} (hm : 2 ∣ m) (hx : -m ≤ 2 * x ∧ 2 * x < m)
    (hy : -m ≤ 2 * y ∧ 2 * y < m) (hc : c ≤ 1) :
    (x + y + c).bmod m ≠ x + y + c ↔
      ((x + y + c).bmod m < 0 ↔ ¬ x < 0) ∧ ((x + y + c).bmod m < 0 ↔ ¬ y < 0) := by
  rw [bmod_eq_wrap (by omega) (by omega)]
  split
  · omega
  split <;> omega

theorem msb_xor_eq_signs (x y : BitVec w) : (x ^^^ y).msb = decide (x.toInt < 0 ↔ ¬ y.toInt < 0) := by
  rw [BitVec.msb_xor, BitVec.msb_eq_toInt, BitVec.msb_eq_toInt]
  by_cases hx : x.toInt < 0 <;> by_cases hy : y.toInt < 0 <;> simp [hx, hy]

theorem addOverflow_add (hw : 0 < w) (a b : BitVec w) (c : Bool) :
    addOverflow a b (a + b + carryIn w c) =
      decide ((a + b + carryIn w c).toInt ≠ a.toInt + b.toInt + c.toNat) := by
  have hrange (x : BitVec w) : -(2 ^ w : Nat) ≤ 2 * x.toInt ∧ 2 * x.toInt < (2 ^ w : Nat) := by
    push_cast
    exact ⟨x.le_two_mul_toInt, x.two_mul_toInt_lt⟩
  rw [addOverflow, BitVec.msb_and, msb_xor_eq_signs, msb_xor_eq_signs, ← Bool.decide_and, decide_eq_decide,
    toInt_add_carryIn]
  exact (bmod_ne_iff_signs (dvd_pow_self 2 hw.ne') (hrange a) (hrange b) c.toNat_le).symm

theorem subOverflow_eq_addOverflow (a b r : BitVec w) : subOverflow a b r = addOverflow r b a := by
  rw [subOverflow, addOverflow, BitVec.xor_comm r a]

theorem adcW_overflow (hw : 0 < w) (a b : BitVec w) (c : Bool) :
    (adcW a b c).2.of_ = some (decide ((adcW a b c).1.toInt ≠ a.toInt + b.toInt + c.toNat)) :=
  calc (adcW a b c).2.of_
    _ = some (addOverflow a b (adcW a b c).1) := rfl
    _ = _ := by rw [adcW_fst, addOverflow_add hw]

theorem sbbW_overflow (hw : 0 < w) (a b : BitVec w) (c : Bool) :
    (sbbW a b c).2.of_ = some (decide ((sbbW a b c).1.toInt ≠ a.toInt - b.toInt - c.toNat)) := by
  have hsum := addOverflow_add hw (sbbW a b c).1 b c
  rw [sbbW_fst_add] at hsum
  calc (sbbW a b c).2.of_
    _ = some (subOverflow a b (sbbW a b c).1) := rfl
    _ = some (decide (a.toInt ≠ (sbbW a b c).1.toInt + b.toInt + c.toNat)) := by
      rw [subOverflow_eq_addOverflow, hsum]
    _ = _ := congrArg some (decide_eq_decide.mpr (by omega))

end Sys2Proof.Machine
end

section
/-! The ALU functions are the rules of 41_alu_flags.md at every width: a test of one bit is the rule's test with a mask,
and PF's sum of eight bits is the rule's count. -/

namespace Sys2Proof.Machine

variable {w : Nat}

/-! ### The mask tests and the classification (R130, R131) -/

theorem and_twoPow_ne_zero (x : BitVec w) (i : Nat) : ((x &&& BitVec.twoPow w i) != 0) = x.getLsbD i := by
  rw [BitVec.and_twoPow]
  cases hi : x.getLsbD i with
  | false => simp
  | true =>
    have hne : BitVec.twoPow w i ≠ 0 := fun h => by
      have hbit := BitVec.getLsbD_twoPow (w := w) i i
      simp [h, BitVec.lt_of_getLsbD hi] at hbit
    simpa using hne

theorem ofNat_two_pow (w i : Nat) : BitVec.ofNat w (2 ^ i) = BitVec.twoPow w i :=
  BitVec.eq_of_toNat_eq (by rw [BitVec.toNat_ofNat, BitVec.toNat_twoPow])

theorem and_signMask_ne_zero (x : BitVec w) : ((x &&& signMask w) != 0) = x.msb := by
  rw [signMask, ofNat_two_pow, and_twoPow_ne_zero, BitVec.msb_eq_getLsbD_last]

theorem and_auxMask_ne_zero (x : BitVec w) : ((x &&& auxMask w) != 0) = x.getLsbD 4 := by
  change ((x &&& BitVec.ofNat w (2 ^ 4)) != 0) = _
  rw [ofNat_two_pow, and_twoPow_ne_zero]

theorem zeroFlag_eq (r : BitVec w) : zeroFlag r = decide (r.toNat = 0) := by
  rw [zeroFlag, beq_eq_decide, decide_eq_decide, BitVec.toNat_eq, BitVec.ofNat_eq_ofNat, BitVec.toNat_zero]

theorem popcount_eq_countP (b : Byte) : popcount b = (List.range 8).countP fun i => b.getLsbD i := by
  simp only [popcount, Bool.toNat, Bool.cond_eq_ite, List.range_succ, List.range_zero, List.nil_append,
    List.countP_append, List.countP_singleton]
  rfl

theorem evenLowByte_eq (r : BitVec w) : evenLowByte w r = parityFlag r := by
  rw [parityFlag, parity, popcount_eq_countP, evenLowByte]
  congr 2
  refine List.countP_congr fun i hi => ?_
  simp [List.mem_range.mp hi]

/-! ### The flags of a result -/

theorem ruleFlags_eq_arithFlags (cf : Bool) (a b r d : BitVec w) :
    ruleFlags w cf (some (((a ^^^ b ^^^ r) &&& auxMask w) != 0)) ((d &&& signMask w) != 0) r =
      arithFlags cf (auxFlag a b r) d.msb r := by
  rw [ruleFlags, arithFlags, and_auxMask_ne_zero, and_signMask_ne_zero, and_signMask_ne_zero, evenLowByte_eq,
    zeroFlag_eq, auxFlag, signFlag]

theorem ruleLogic_eq (r : BitVec w) : ruleLogic w r = (r, logicFlags r) := by
  rw [ruleLogic, ruleFlags, logicFlags, and_signMask_ne_zero, evenLowByte_eq, zeroFlag_eq, signFlag]

/-! ### The functions (R132 to R137) -/

theorem ofNat_mod_two_pow (n : Nat) : BitVec.ofNat w (n % 2 ^ w) = BitVec.ofNat w n :=
  BitVec.eq_of_toNat_eq (by simp)

theorem ofInt_toNat_sub_sub (a b : BitVec w) (n : Nat) :
    BitVec.ofInt w (a.toNat - b.toNat - n) = a - b - BitVec.ofNat w n := by
  simp [sub_eq_add_neg, BitVec.ofInt_add, BitVec.ofInt_neg, BitVec.ofInt_natCast]

theorem adcW_eq_ruleAdc (a b : BitVec w) (c : Bool) : adcW a b c = ruleAdc w a b c := by
  simp only [adcW, ruleAdc, ruleFlags_eq_arithFlags, ofNat_mod_two_pow, addOverflow]

theorem sbbW_eq_ruleSbb (a b : BitVec w) (c : Bool) : sbbW a b c = ruleSbb w a b c := by
  simp only [sbbW, ruleSbb, ruleFlags_eq_arithFlags, ofInt_toNat_sub_sub, subOverflow]

theorem addW_eq_ruleAdd (a b : BitVec w) : addW a b = ruleAdd w a b := adcW_eq_ruleAdc a b false

theorem subW_eq_ruleSub (a b : BitVec w) : subW a b = ruleSub w a b :=
  calc subW a b
    _ = ruleSbb w a b false := by rw [← sbbW_false, sbbW_eq_ruleSbb]
    _ = ruleSub w a b := by simp [ruleSbb, ruleSub]

theorem andW_eq_ruleLogic (a b : BitVec w) : andW a b = ruleLogic w (a &&& b) := (ruleLogic_eq _).symm

theorem orW_eq_ruleLogic (a b : BitVec w) : orW a b = ruleLogic w (a ||| b) := (ruleLogic_eq _).symm

theorem xorW_eq_ruleLogic (a b : BitVec w) : xorW a b = ruleLogic w (a ^^^ b) := (ruleLogic_eq _).symm

end Sys2Proof.Machine
end

section
/-! The obligations on the ALU, each from the law at every width. -/

namespace Sys2Proof.Machine

/-- Settles O21: AF is the carry into bit 4, of a + b + c for `adcW` and of r + b + c = a for `sbbW`. -/
theorem auxiliaryCarryIsExact : Obligations.AuxiliaryCarryIsExact := by
  unfold Obligations.AuxiliaryCarryIsExact
  exact ⟨fun a b c => ⟨adcW_af (by decide) a b c, sbbW_af (by decide) a b c⟩,
    fun a b c => ⟨adcW_af (by decide) a b c, sbbW_af (by decide) a b c⟩⟩

/-- Settles O22: the signed sum leaves the range exactly when the signs say so, of a + b + c for `adcW` and of
r + b + c = a for `sbbW`. -/
theorem overflowIsTwosComplementOverflow : Obligations.OverflowIsTwosComplementOverflow := by
  unfold Obligations.OverflowIsTwosComplementOverflow
  exact ⟨fun a b c => ⟨adcW_overflow (by decide) a b c, sbbW_overflow (by decide) a b c⟩,
    fun a b c => ⟨adcW_overflow (by decide) a b c, sbbW_overflow (by decide) a b c⟩⟩

/-- Settles O13: the sum of eight bits is a count, and the sign mask is the width's top bit. -/
theorem resultsAreClassified : Obligations.ResultsAreClassified := by
  unfold Obligations.ResultsAreClassified
  refine ⟨fun b => ?_, fun r => ⟨zeroFlag_eq r, (and_signMask_ne_zero r).symm, ?_⟩,
    fun r => ⟨zeroFlag_eq r, (and_signMask_ne_zero r).symm, ?_⟩⟩
  · rw [parity, popcount_eq_countP, beq_eq_decide]
  · rw [parityFlag, BitVec.setWidth_eq_extractLsb' (by decide)]
  · rw [parityFlag, BitVec.setWidth_eq]

/-- Settles O14, by the rule at every width. -/
theorem add16FollowsItsRule : Obligations.Add16FollowsItsRule := by
  unfold Obligations.Add16FollowsItsRule
  exact addW_eq_ruleAdd

/-- Settles O15, by the rule at every width. -/
theorem sub16FollowsItsRule : Obligations.Sub16FollowsItsRule := by
  unfold Obligations.Sub16FollowsItsRule
  exact subW_eq_ruleSub

/-- Settles O16, by the rule at every width. -/
theorem logic16FollowsItsRule : Obligations.Logic16FollowsItsRule := by
  unfold Obligations.Logic16FollowsItsRule
  exact fun a b => ⟨andW_eq_ruleLogic a b, orW_eq_ruleLogic a b, xorW_eq_ruleLogic a b⟩

/-- Settles O17, by the rules at every width. -/
theorem width8FollowsTheSameRules : Obligations.Width8FollowsTheSameRules := by
  unfold Obligations.Width8FollowsTheSameRules
  exact fun a b => ⟨addW_eq_ruleAdd a b, subW_eq_ruleSub a b, andW_eq_ruleLogic a b, orW_eq_ruleLogic a b,
    xorW_eq_ruleLogic a b⟩

/-- Settles O18, by the rule at every width. -/
theorem adcFollowsItsRule : Obligations.AdcFollowsItsRule := by
  unfold Obligations.AdcFollowsItsRule
  exact ⟨adcW_eq_ruleAdc, adcW_eq_ruleAdc, adcW_false, adcW_false⟩

/-- Settles O19, by the rule at every width. -/
theorem sbbFollowsItsRule : Obligations.SbbFollowsItsRule := by
  unfold Obligations.SbbFollowsItsRule
  exact ⟨sbbW_eq_ruleSbb, sbbW_eq_ruleSbb, sbbW_false, sbbW_false⟩

/-- Settles O20, by the rules of add16 and sub16 with 1. -/
theorem incDec16FollowsItsRule : Obligations.IncDec16FollowsItsRule := by
  unfold Obligations.IncDec16FollowsItsRule
  intro a
  rw [inc16, dec16, withoutCf, withoutCf, addW_eq_ruleAdd, subW_eq_ruleSub]
  exact ⟨rfl, rfl⟩

end Sys2Proof.Machine
end

section
/-! What the class of an opcode makes of its instruction, and what a step answers before an instruction runs
(42_engine.md R161 to R174). -/

namespace Sys2Proof.Machine

/-! ### The instruction by the class of its opcode -/

/-- What an opcode of a class does: a PROVISIONAL one some rule that the policy guards (R174), an UNSETTLED and an
UNIMPLEMENTED one what their class says (R173, R169); a SETTLED one its own rule. -/
def MeansByClass (i : Instr) : OpClass → Prop
  | .settled => True
  | .provisional => ∃ rule : State → Out, ∀ s, exec i s = provisional i.opcode rule s
  | .unsettled => ∀ s, exec i s = refuseUnsettled i.opcode
  | .unimplemented => ∀ s, exec i s = haltUnimplemented i.opcode s

theorem exec_meansByClass (i : Instr) : MeansByClass i (classOf i.opcode) := by
  cases i with
  | andRm16R16 | xorRm16R16 | hlt => exact trivial
  | addRm8R8 | orRm8R8 | adcRm8R8 | sbbRm8R8 | andRm8R8 | subRm8R8 | xorRm8R8 | cmpRm8R8
  | addRm16R16 | orRm16R16 | adcRm16R16 | sbbRm16R16 | subRm16R16 | cmpRm16R16
  | addR8Rm8 | orR8Rm8 | adcR8Rm8 | sbbR8Rm8 | andR8Rm8 | subR8Rm8 | xorR8Rm8 | cmpR8Rm8
  | addR16Rm16 | orR16Rm16 | adcR16Rm16 | sbbR16Rm16 | andR16Rm16 | subR16Rm16 | xorR16Rm16 | cmpR16Rm16
  | addAlImm8 | orAlImm8 | adcAlImm8 | sbbAlImm8 | andAlImm8 | subAlImm8 | xorAlImm8 | cmpAlImm8
  | addAxImm16 | orAxImm16 | adcAxImm16 | sbbAxImm16 | andAxImm16 | subAxImm16 | xorAxImm16 | cmpAxImm16
  | incAx | incCx | incDx | incBx | incSp | incBp | incSi | incDi
  | decAx | decCx | decDx | decBx | decSp | decBp | decSi | decDi
  | pushAx | pushCx | pushDx | pushBx | pushSp | pushBp | pushSi | pushDi
  | popAx | popCx | popDx | popBx | popSp | popBp | popSi | popDi => exact ⟨_, fun _ => rfl⟩
  | _ => exact fun _ => rfl

section
variable {i : Instr}

theorem exec_of_unsettled (h : classOf i.opcode = .unsettled) (s : State) :
    exec i s = .refused (.unsettledOpcode i.opcode) := by
  have hm := exec_meansByClass i
  rw [h] at hm
  exact hm s

theorem exec_of_unimplemented (h : classOf i.opcode = .unimplemented) (s : State) :
    exec i s = .next (s.halt (.unimplementedOpcode i.opcode)) := by
  have hm := exec_meansByClass i
  rw [h] at hm
  exact hm s

theorem exec_of_provisional_refuse (h : classOf i.opcode = .provisional) {s : State}
    (hp : s.params.provisionalPolicy = .refuse) : exec i s = .refused (.provisionalOpcode i.opcode) := by
  have hm := exec_meansByClass i
  rw [h] at hm
  obtain ⟨rule, hrule⟩ := hm
  rw [hrule, provisional_refuse hp]

end

/-! ### Opcodes that may run -/

section
variable {s : State} {op : Byte}

theorem State.MayRun.classRefusal_eq_none (h : s.MayRun op) : classRefusal s op = none := by
  obtain hc | hc | ⟨hc, hp⟩ := h
  · simp [classRefusal, hc]
  · simp [classRefusal, hc]
  · simp [classRefusal, hc, hp]

/-- An instruction that may run is refused by no rule of its own. -/
theorem State.MayRun.answers {i : Instr} (h : s.MayRun i.opcode) : Answers (exec i s) := by
  obtain ha | ⟨hc, -⟩ | ⟨hc, hp, -⟩ := exec_classDecides i s
  · exact ha
  · simp [State.MayRun, hc] at h
  · simp [State.MayRun, hc, hp] at h

theorem classRefusal_of_unsettled (s : State) (h : classOf op = .unsettled) :
    classRefusal s op = some (.unsettledOpcode op) := by
  simp [classRefusal, h]

theorem classRefusal_of_provisional (h : classOf op = .provisional) (hp : s.params.provisionalPolicy = .refuse) :
    classRefusal s op = some (.provisionalOpcode op) := by
  simp [classRefusal, h, hp]

/-- The policy EXECUTE refuses no PROVISIONAL opcode. -/
theorem classRefusal_ne_provisionalOpcode (hp : s.params.provisionalPolicy = .execute) (op q : Byte) :
    classRefusal s op ≠ some (.provisionalOpcode q) := by
  cases hc : classOf op <;> simp [classRefusal, hc, hp]

theorem exec_ne_provisionalOpcode (hp : s.params.provisionalPolicy = .execute) (i : Instr) (q : Byte) :
    exec i s ≠ .refused (.provisionalOpcode q) := by
  obtain ⟨t, he⟩ | ⟨-, he⟩ | ⟨-, hr, -⟩ := exec_classDecides i s
  · simp [he]
  · simp [he]
  · simp [hr] at hp

end

/-! ### The fetch by the class of the opcode byte -/

section
variable {s : State}

theorem fetchInstr_of_classRefusal (hb : s.physIp < s.params.memSize) {r : Refusal}
    (h : classRefusal s (s.byteAt s.physIp) = some r) : fetchInstr s = .error (.refuse r) := by
  rw [fetchInstr_eq hb, h]

theorem fetchInstr_of_mayRun (hb : s.physIp < s.params.memSize) (h : s.MayRun (s.byteAt s.physIp)) :
    fetchInstr s = decodeOperands s.params.mod00Rm110 (instrByte s) (s.byteAt s.physIp) := by
  rw [fetchInstr_eq hb, h.classRefusal_eq_none]

/-- A fetch that is refused was refused by the class of the opcode, or at the end of the segment. -/
theorem fetchInstr_refuse {r : Refusal} (h : fetchInstr s = .error (.refuse r)) :
    classRefusal s (s.byteAt s.physIp) = some r ∨ ∃ ip0 n, r = .instructionCrossesSegmentEnd ip0 n := by
  by_cases hb : s.physIp < s.params.memSize
  · rw [fetchInstr_eq hb] at h
    cases hc : classRefusal s (s.byteAt s.physIp) with
    | some q =>
      rw [hc] at h
      cases h
      exact .inl rfl
    | none =>
      rw [hc] at h
      exact .inr (decodeOperands_error (P := Stop.OfByte) (fun n e he => instrByte_error he) h)
  · rw [fetchInstr_outOfBounds (by omega)] at h
    cases h

/-- The instruction of a table entry without an operation. -/
def absentInstrOf : Shape → Option Instr
  | .absent i => some i
  | _ => none

theorem opcode_of_absentInstrOf : ∀ op : Byte, ∀ i ∈ absentInstrOf (shapeOf op), i.opcode = op := by
  decide

/-- An UNIMPLEMENTED opcode byte is an instruction by itself: no operand byte is fetched (R169). -/
theorem fetchInstr_of_unimplemented (hb : s.physIp < s.params.memSize)
    (h : classOf (s.byteAt s.physIp) = .unimplemented) :
    ∃ i, fetchInstr s = .ok i ∧ i.opcode = s.byteAt s.physIp := by
  obtain ⟨i, hi⟩ := Shape.classWithoutOperation_eq_unimplemented_iff.mp
    ((classOf_iff_classWithoutOperation_shapeOf (s.byteAt s.physIp)).1.mp h)
  refine ⟨i, ?_, opcode_of_absentInstrOf _ i (by simp [absentInstrOf, hi])⟩
  rw [fetchInstr_of_mayRun hb (.inr (.inl h)), decodeOperands, hi]

end

/-! ### The step by what the fetch answers -/

section
variable {s : State}

theorem step_of_fetchInstr_ok (hr : s.Running) {i : Instr} (h : fetchInstr s = .ok i) : step s = exec i s := by
  rw [step_running hr, h]

theorem step_of_fetchInstr_error (hr : s.Running) {e : Stop} (h : fetchInstr s = .error e) :
    step s = stopOutcome s e := by
  rw [step_running hr, h]

/-- A Running machine whose opcode byte does not exist raises OutOfBounds(PHYS_IP) (R163, R182). -/
theorem step_outOfBounds (hr : s.Running) (hb : s.params.memSize ≤ s.physIp) :
    step s = .next (s.raiseError (.outOfBounds s.physIp)) :=
  step_of_fetchInstr_error hr (fetchInstr_outOfBounds hb)

theorem step_of_classRefusal (hr : s.Running) (hb : s.physIp < s.params.memSize) {r : Refusal}
    (h : classRefusal s (s.byteAt s.physIp) = some r) : step s = .refused r :=
  step_of_fetchInstr_error hr (fetchInstr_of_classRefusal hb h)

theorem step_of_unimplemented (hr : s.Running) (hb : s.physIp < s.params.memSize)
    (h : classOf (s.byteAt s.physIp) = .unimplemented) :
    step s = .next (s.halt (.unimplementedOpcode (s.byteAt s.physIp))) := by
  obtain ⟨i, hi, hop⟩ := fetchInstr_of_unimplemented hb h
  rw [step_of_fetchInstr_ok hr hi, exec_of_unimplemented (hop ▸ h), hop]

theorem step_of_notRunning {f : Fault} (h : notRunning s = some f) : step s = .fault f := by
  rw [step, h]

/-- A step that is refused was refused in the fetch, or by the instruction. -/
theorem step_refused {r : Refusal} (h : step s = .refused r) :
    fetchInstr s = .error (.refuse r) ∨ ∃ i, exec i s = .refused r := by
  cases hn : notRunning s with
  | some f =>
    rw [step_of_notRunning hn] at h
    cases h
  | none =>
    have hr := notRunning_eq_none.mp hn
    cases hf : fetchInstr s with
    | ok i => exact .inr ⟨i, (step_of_fetchInstr_ok hr hf).symm.trans h⟩
    | error e =>
      rw [step_of_fetchInstr_error hr hf] at h
      cases e <;> cases h
      exact .inl rfl

theorem exec_ne_fault (i : Instr) (s : State) (f : Fault) : exec i s ≠ .fault f := by
  obtain ⟨t, he⟩ | ⟨-, he⟩ | ⟨-, -, he⟩ := exec_classDecides i s <;> simp [he]

theorem stopOutcome_ne_fault (s : State) (e : Stop) (f : Fault) : stopOutcome s e ≠ .fault f := by
  cases e <;> simp [stopOutcome]

theorem State.Running.step_ne_fault (hr : s.Running) (f : Fault) : step s ≠ .fault f := by
  cases hf : fetchInstr s with
  | ok i => exact step_of_fetchInstr_ok hr hf ▸ exec_ne_fault i s f
  | error e => exact step_of_fetchInstr_error hr hf ▸ stopOutcome_ne_fault s e f

end

/-! ### HALT_REASON and IP after an instruction -/

section
variable {s t : State} {i : Instr}

theorem KeepsSystem.haltReason_eq (h : KeepsSystem s t) : t.haltReason = s.haltReason := by
  obtain ⟨-, -, -, -, -, hreason, -⟩ := h
  exact hreason

/-- An instruction keeps HALT_REASON, or gives one of the two that instructions give. -/
theorem exec_haltReason (h : exec i s = .next t) :
    t.haltReason = s.haltReason ∨ t.haltReason = some .hlt ∨ ∃ op, t.haltReason = some (.unimplementedOpcode op) := by
  cases exec_effect h with
  | raised a => exact .inl rfl
  | unimplemented _ => exact .inr (.inr ⟨_, rfl⟩)
  | hlt _ => exact .inr (.inl rfl)
  | alu8 k dst _ _ _ => exact .inl (keepsSystem_aluDone8 k s dst _ _).haltReason_eq
  | alu16 k dst _ _ _ => exact .inl (keepsSystem_aluDone16 k s dst _ _).haltReason_eq
  | incDec r p _ _ _ => exact .inl (by simp)
  | push r _ _ _ => exact .inl (keepsSystem_pushDone r s).haltReason_eq
  | pop r _ _ _ => exact .inl (keepsSystem_popDone r s).haltReason_eq

theorem aluDone8_ip (k : AluKind) (s : State) (dst : Loc8) (p : Byte × FlagWrite) (len : Nat) :
    (aluDone8 k s dst p len).ip = s.ip + BitVec.ofNat 16 len := by
  unfold aluDone8
  split <;> simp

theorem aluDone16_ip (k : AluKind) (s : State) (dst : Loc16) (p : Word × FlagWrite) (len : Nat) :
    (aluDone16 k s dst p len).ip = s.ip + BitVec.ofNat 16 len := by
  unfold aluDone16
  split <;> simp

/-- IP after an instruction: an UNIMPLEMENTED one leaves it, an error leaves it, every other one moves it by the
number of its bytes (R167). -/
theorem exec_ip (h : exec i s = .next t) :
    (classOf i.opcode = .unimplemented ∧ t.ip = s.ip) ∨ (∃ e, t = s.raiseError e) ∨
    (classOf i.opcode ≠ .unimplemented ∧ t.ip = s.ip + BitVec.ofNat 16 (encode i).length) := by
  cases exec_effect h with
  | raised a => exact .inr (.inl ⟨_, rfl⟩)
  | unimplemented hc => exact .inl ⟨hc, rfl⟩
  | hlt hi => exact .inr (.inr ⟨by subst hi; decide, by subst hi; rfl⟩)
  | alu8 k dst _ hc _ => exact .inr (.inr ⟨hc, aluDone8_ip k s dst _ _⟩)
  | alu16 k dst _ hc _ => exact .inr (.inr ⟨hc, aluDone16_ip k s dst _ _⟩)
  | incDec r p hc hl _ => exact .inr (.inr ⟨hc, by simp [hl]⟩)
  | push r hc hl _ => exact .inr (.inr ⟨hc, by simp [hl, pushDone]⟩)
  | pop r hc hl _ => exact .inr (.inr ⟨hc, by simp [hl, popDone]⟩)

/-- The offset `n` bytes on, as a number modulo 2^16. -/
theorem word_add_ofNat (w : Word) (n : Nat) : w + BitVec.ofNat 16 n = BitVec.ofNat 16 (w.toNat + n) := by
  rw [BitVec.ofNat_add, BitVec.ofNat_toNat, BitVec.setWidth_eq]

end

end Sys2Proof.Machine
end

section
/-! Instructions whose bytes end too early: the length of an encoding by its table entry (30_encoding.md R71), and the
fetch of an instruction of which one byte cannot be had (42_engine.md R163, R165). -/

namespace Sys2Proof

/-! ### Each instruction by the table entry of its opcode -/

/-- Every instruction is built by the table entry of its opcode. -/
theorem Instr.builtBy_shapeOf (i : Instr) : Laws.Encoding.BuiltBy i (shapeOf i.opcode) := by
  cases i with
  | addRm8R8 rm r => exact Laws.Encoding.addRm8R8 rm r
  | addRm16R16 rm r => exact Laws.Encoding.addRm16R16 rm r
  | addR8Rm8 r rm => exact Laws.Encoding.addR8Rm8 r rm
  | addR16Rm16 r rm => exact Laws.Encoding.addR16Rm16 r rm
  | addAlImm8 imm => exact Laws.Encoding.addAlImm8 imm
  | addAxImm16 imm => exact Laws.Encoding.addAxImm16 imm
  | orRm8R8 rm r => exact Laws.Encoding.orRm8R8 rm r
  | orRm16R16 rm r => exact Laws.Encoding.orRm16R16 rm r
  | orR8Rm8 r rm => exact Laws.Encoding.orR8Rm8 r rm
  | orR16Rm16 r rm => exact Laws.Encoding.orR16Rm16 r rm
  | orAlImm8 imm => exact Laws.Encoding.orAlImm8 imm
  | orAxImm16 imm => exact Laws.Encoding.orAxImm16 imm
  | adcRm8R8 rm r => exact Laws.Encoding.adcRm8R8 rm r
  | adcRm16R16 rm r => exact Laws.Encoding.adcRm16R16 rm r
  | adcR8Rm8 r rm => exact Laws.Encoding.adcR8Rm8 r rm
  | adcR16Rm16 r rm => exact Laws.Encoding.adcR16Rm16 r rm
  | adcAlImm8 imm => exact Laws.Encoding.adcAlImm8 imm
  | adcAxImm16 imm => exact Laws.Encoding.adcAxImm16 imm
  | sbbRm8R8 rm r => exact Laws.Encoding.sbbRm8R8 rm r
  | sbbRm16R16 rm r => exact Laws.Encoding.sbbRm16R16 rm r
  | sbbR8Rm8 r rm => exact Laws.Encoding.sbbR8Rm8 r rm
  | sbbR16Rm16 r rm => exact Laws.Encoding.sbbR16Rm16 r rm
  | sbbAlImm8 imm => exact Laws.Encoding.sbbAlImm8 imm
  | sbbAxImm16 imm => exact Laws.Encoding.sbbAxImm16 imm
  | andRm8R8 rm r => exact Laws.Encoding.andRm8R8 rm r
  | andRm16R16 rm r => exact Laws.Encoding.andRm16R16 rm r
  | andR8Rm8 r rm => exact Laws.Encoding.andR8Rm8 r rm
  | andR16Rm16 r rm => exact Laws.Encoding.andR16Rm16 r rm
  | andAlImm8 imm => exact Laws.Encoding.andAlImm8 imm
  | andAxImm16 imm => exact Laws.Encoding.andAxImm16 imm
  | subRm8R8 rm r => exact Laws.Encoding.subRm8R8 rm r
  | subRm16R16 rm r => exact Laws.Encoding.subRm16R16 rm r
  | subR8Rm8 r rm => exact Laws.Encoding.subR8Rm8 r rm
  | subR16Rm16 r rm => exact Laws.Encoding.subR16Rm16 r rm
  | subAlImm8 imm => exact Laws.Encoding.subAlImm8 imm
  | subAxImm16 imm => exact Laws.Encoding.subAxImm16 imm
  | xorRm8R8 rm r => exact Laws.Encoding.xorRm8R8 rm r
  | xorRm16R16 rm r => exact Laws.Encoding.xorRm16R16 rm r
  | xorR8Rm8 r rm => exact Laws.Encoding.xorR8Rm8 r rm
  | xorR16Rm16 r rm => exact Laws.Encoding.xorR16Rm16 r rm
  | xorAlImm8 imm => exact Laws.Encoding.xorAlImm8 imm
  | xorAxImm16 imm => exact Laws.Encoding.xorAxImm16 imm
  | cmpRm8R8 rm r => exact Laws.Encoding.cmpRm8R8 rm r
  | cmpRm16R16 rm r => exact Laws.Encoding.cmpRm16R16 rm r
  | cmpR8Rm8 r rm => exact Laws.Encoding.cmpR8Rm8 r rm
  | cmpR16Rm16 r rm => exact Laws.Encoding.cmpR16Rm16 r rm
  | cmpAlImm8 imm => exact Laws.Encoding.cmpAlImm8 imm
  | cmpAxImm16 imm => exact Laws.Encoding.cmpAxImm16 imm
  | _ => exact ⟨rfl, rfl, fun _ => rfl⟩

/-! ### The bytes of an r/m operand -/

section
variable {p : Mod00Rm110}

/-- The bytes of an operand are a mode byte and as many displacement bytes as it says (40_operand_resolver.md
R103). -/
def IsModeAndDisp (p : Mod00Rm110) (bytes : List Byte) : Prop :=
  ∃ m disp, bytes = m :: disp ∧ disp.length = dispCount p m

theorem isModeAndDisp_register (reg rm : Field3) : IsModeAndDisp p [modeByte 0b11 reg rm] :=
  ⟨_, [], rfl, by simp [dispCount]⟩

/-- mod 00 with rm 110 is the direct address where MOD00_RM110 says so (R106), so [BP] is no plain operand there. -/
theorem MemOperand.encode_isModeAndDisp (reg : Field3) {m : MemOperand} (h : m.wf p = true) :
    IsModeAndDisp p (m.encode reg) := by
  cases m with
  | plain b =>
    refine ⟨_, [], rfl, ?_⟩
    cases b <;> cases p <;> simp_all [dispCount, MemOperand.wf, Base.id]
  | disp8 b d => exact ⟨_, [d], rfl, by simp [dispCount]⟩
  | disp16 b d => exact ⟨_, wordBytes d, rfl, by simp [dispCount, wordBytes]⟩
  | direct a =>
    have hp : p = .directDisp16 := by simpa [MemOperand.wf] using h
    exact ⟨_, wordBytes a, rfl, by simp [dispCount, wordBytes, hp]⟩

theorem Rm8.encode_isModeAndDisp (r : Reg8) {rm : Rm8} (h : rm.wf p = true) : IsModeAndDisp p (rm.encode r) := by
  cases rm with
  | reg q => exact isModeAndDisp_register r.id q.id
  | mem m => exact MemOperand.encode_isModeAndDisp r.id h

theorem Rm16.encode_isModeAndDisp (r : Reg16) {rm : Rm16} (h : rm.wf p = true) : IsModeAndDisp p (rm.encode r) := by
  cases rm with
  | reg q => exact isModeAndDisp_register r.id q.id
  | mem m => exact MemOperand.encode_isModeAndDisp r.id h

/-- The operand bytes of a well-formed instruction, by the entry of its opcode (R79, R82): none, a mode byte with its
displacement bytes, or one or two immediate bytes. -/
inductive OperandLayout (p : Mod00Rm110) : Shape → List Byte → Prop where
  | plain (i : Instr) : OperandLayout p (.plain i) []
  | mode8 (mk : Rm8 → Reg8 → Instr) {bytes : List Byte} (h : IsModeAndDisp p bytes) : OperandLayout p (.mode8 mk) bytes
  | mode16 (mk : Rm16 → Reg16 → Instr) {bytes : List Byte} (h : IsModeAndDisp p bytes) :
      OperandLayout p (.mode16 mk) bytes
  | imm8 (mk : Byte → Instr) (imm : Byte) : OperandLayout p (.imm8 mk) [imm]
  | imm16 (mk : Word → Instr) (imm : Word) : OperandLayout p (.imm16 mk) (wordBytes imm)
  | absent (i : Instr) : OperandLayout p (.absent i) []
  | unsettled (i : Instr) : OperandLayout p (.unsettled i) []

theorem Instr.operandLayout {i : Instr} (h : i.wf p = true) : OperandLayout p (shapeOf i.opcode) i.operandBytes := by
  have hb := i.builtBy_shapeOf
  cases hs : shapeOf i.opcode with
  | plain j =>
    obtain ⟨-, ho, -⟩ := hs ▸ hb
    exact ho ▸ .plain j
  | mode8 mk =>
    obtain ⟨rm, r, -, ho, hw⟩ := hs ▸ hb
    exact ho ▸ .mode8 mk (Rm8.encode_isModeAndDisp r (hw p ▸ h))
  | mode16 mk =>
    obtain ⟨rm, r, -, ho, hw⟩ := hs ▸ hb
    exact ho ▸ .mode16 mk (Rm16.encode_isModeAndDisp r (hw p ▸ h))
  | imm8 mk =>
    obtain ⟨imm, -, ho, -⟩ := hs ▸ hb
    exact ho ▸ .imm8 mk imm
  | imm16 mk =>
    obtain ⟨imm, -, ho, -⟩ := hs ▸ hb
    exact ho ▸ .imm16 mk imm
  | absent j =>
    obtain ⟨-, ho, -⟩ := hs ▸ hb
    exact ho ▸ .absent j
  | unsettled j =>
    obtain ⟨-, ho, -⟩ := hs ▸ hb
    exact ho ▸ .unsettled j

/-- The length of an instruction is 1 + L + d (R71). -/
theorem encode_length {i : Instr} (h : i.wf p = true) :
    (encode i).length = 1 + (shapeOf i.opcode).operandCount + Machine.dispCountOf p i := by
  have hl := Instr.operandLayout h
  unfold Machine.dispCountOf encode
  generalize shapeOf i.opcode = sh, i.operandBytes = bytes at hl
  cases hl with
  | mode8 mk hm | mode16 mk hm =>
    obtain ⟨m, disp, rfl, hd⟩ := hm
    simp only [List.length_cons, Shape.operandCount, hd]
    omega
  | plain | absent | unsettled | imm8 | imm16 => rfl

end

/-! ### Decoding from a source that fails at one offset -/

section
variable {ε : Type} {ib : Nat → Except ε Byte} {n : Nat} {e : ε}

/-- The displacement fails where the source first does. -/
theorem disp16At_cut (hn : n < 2) (hok : ∀ k < n, ∃ b, ib (2 + k) = .ok b) (he : ib (2 + n) = .error e) :
    disp16At ib = .error e := by
  match n, hn with
  | 0, _ => simp [disp16At, he, Except.bind]
  | 1, _ =>
    obtain ⟨lo, hlo⟩ := hok 0 (by omega)
    simp [disp16At, hlo, he, Except.bind]

theorem decodeRm_cut {p : Mod00Rm110} {m : Byte} (hn : n < dispCount p m) (hok : ∀ k < n, ∃ b, ib (2 + k) = .ok b)
    (he : ib (2 + n) = .error e) : decodeRm p ib m = .error e := by
  unfold dispCount at hn
  unfold decodeRm
  split at hn
  · split at hn
    · next hd => simp [hd, disp16At_cut hn hok he, Except.bind]
    · omega
  · obtain rfl : n = 0 := by omega
    simp_all [Except.bind]
  · simp_all [disp16At_cut hn hok he, Except.bind]
  · omega

variable {β : Type} (f : Byte → RmOperand → Except ε β)

/-- Decoding an r/m operand fails at the first of its displacement bytes that cannot be had. -/
theorem decodeModeAndDisp_cut {p : Mod00Rm110} {bytes : List Byte} (hb : IsModeAndDisp p bytes) (hn : n < bytes.length)
    (hok : ∀ k b, k < n → bytes[k]? = some b → ib (1 + k) = .ok b) (he : ib (1 + n) = .error e) :
    ((ib 1).bind fun m => (decodeRm p ib m).bind (f m)) = .error e := by
  obtain ⟨m, disp, rfl, hd⟩ := hb
  cases n with
  | zero => simp [he, Except.bind]
  | succ n =>
    have hm : ib 1 = .ok m := hok 0 m (by omega) rfl
    have hn : n < disp.length := by simpa using hn
    have hdisp : ∀ k < n, ∃ b, ib (2 + k) = .ok b := fun k hk =>
      ⟨disp[k], by rw [show 2 + k = 1 + (k + 1) by omega]; exact hok (k + 1) _ (by omega) (by simp)⟩
    have hcut : decodeRm p ib m = .error e := decodeRm_cut (hd ▸ hn) hdisp (by rwa [show 2 + n = 1 + (n + 1) by omega])
    simp [hm, hcut, Except.bind]

/-- Decoding fails where the source first does, if that is a byte of the instruction. -/
theorem decodeOperands_cut {p : Mod00Rm110} {op : Byte} {bytes : List Byte} (hl : OperandLayout p (shapeOf op) bytes)
    (hn : n < bytes.length) (hok : ∀ k b, k < n → bytes[k]? = some b → ib (1 + k) = .ok b)
    (he : ib (1 + n) = .error e) : decodeOperands p ib op = .error e := by
  unfold decodeOperands
  generalize shapeOf op = sh at hl
  cases hl with
  | plain | absent | unsettled => simp at hn
  | mode8 mk hb => exact decodeModeAndDisp_cut _ hb hn hok he
  | mode16 mk hb => exact decodeModeAndDisp_cut _ hb hn hok he
  | imm8 mk imm =>
    obtain rfl : n = 0 := by simpa using hn
    simp [he, Except.bind]
  | imm16 mk imm =>
    match n, hn with
    | 0, _ => simp [he, Except.bind]
    | 1, _ => simp [hok 0 (loByte imm) (by omega) rfl, he, Except.bind]

end

end Sys2Proof
end

section
/-! The step of a machine whose next instruction is cut off: at the end of the code segment or at the end of memory
(42_engine.md R163, R165). -/

namespace Sys2Proof.Machine

section
variable {s : State} {n : Nat}

theorem instrByte_crossing (h : s.ip.toNat + n > 0xFFFF) :
    instrByte s n = .error (.refuse (.instructionCrossesSegmentEnd s.ip n)) := if_pos h

theorem instrByte_outOfBounds (hn : s.ip.toNat + n ≤ 0xFFFF) (hb : s.params.memSize ≤ s.physIp + n) :
    instrByte s n = .error (.raise (.outOfBounds (s.physIp + n))) := by
  unfold instrByte
  rw [if_neg (by omega), memRead8_of_ge hb]

/-- The bytes of an instruction that are in memory and in the segment are the ones fetched. -/
theorem State.Holds.instrByte_eq {bytes : List Byte} (h : s.Holds s.physIp (bytes.take n))
    (hip : s.ip.toNat + n ≤ 0x10000) (hmem : s.physIp + n ≤ s.params.memSize) {k : Nat} {b : Byte} (hk : k < n)
    (hb : bytes[k]? = some b) : instrByte s k = .ok b := by
  rw [instrByte_ok (by omega) (by omega), h k b (by rw [List.getElem?_take_of_lt hk, hb])]

/-- A step on an instruction whose first byte that cannot be fetched is not its opcode ends as that byte's fetch
does. -/
theorem step_of_cut {i : Instr} (hr : s.Running) (hwf : i.wf s.params.mod00Rm110 = true) (hrun : s.MayRun i.opcode)
    (h0 : 0 < n) (hn : n < (encode i).length) (hip : s.ip.toNat + n ≤ 0x10000)
    (hmem : s.physIp + n ≤ s.params.memSize) (hh : s.Holds s.physIp ((encode i).take n)) {stop : Stop}
    (he : instrByte s n = .error stop) : step s = stopOutcome s stop := by
  obtain ⟨m, rfl⟩ : ∃ m, n = 1 + m := ⟨n - 1, by omega⟩
  have hop : s.byteAt s.physIp = i.opcode := hh 0 i.opcode (by simp [encode, Nat.add_comm 1])
  refine step_of_fetchInstr_error hr ?_
  rw [fetchInstr_of_mayRun (by omega) (hop ▸ hrun), hop]
  refine decodeOperands_cut (Instr.operandLayout hwf) (by simpa [encode, Nat.add_comm 1] using hn) ?_ he
  exact fun k b hk hb => hh.instrByte_eq hip hmem (by omega) (by simpa [encode, Nat.add_comm 1] using hb)

end

end Sys2Proof.Machine
end

section
/-! What `run` does on a machine that is not Running, and on a budget that is a sum (42_engine.md R176 to R179). -/

namespace Sys2Proof.Machine

section
variable {s t : State}

theorem notRunning_of_error {e : Error} (h : s.error = some e) : notRunning s = some (.errored e) := by
  simp [notRunning, h]

theorem notRunning_of_halted (he : s.error = none) (h : s.halted = true) :
    notRunning s = some (.halted s.haltReason) := by
  simp [notRunning, he, h]

/-- On a machine that is not Running, `run` takes no step, whatever its budget. -/
theorem run_of_notRunning {f : Fault} (h : notRunning s = some f) (n : Nat) : run n s = (faultReport f, s) := by
  cases n with
  | zero => simp only [run, h]
  | succ n => simp only [run, step_of_notRunning h]

theorem run_of_error {e : Error} (h : s.error = some e) (n : Nat) : run n s = (.error e, s) :=
  run_of_notRunning (notRunning_of_error h) n

theorem run_of_halted (he : s.error = none) (h : s.halted = true) (n : Nat) :
    run n s = (.halted s.haltReason, s) :=
  run_of_notRunning (notRunning_of_halted he h) n

theorem run_zero_of_running (h : s.Running) : run 0 s = (.stepLimitReached, s) := by
  simp only [run, h.notRunning]

theorem run_succ_of_next (h : step s = .next t) (n : Nat) : run (n + 1) s = run n t := by
  simp only [run, h]

theorem run_succ_of_fault {f : Fault} (h : step s = .fault f) (n : Nat) : run (n + 1) s = (faultReport f, s) := by
  simp only [run, h]

theorem run_succ_of_refused {r : Refusal} (h : step s = .refused r) (n : Nat) : run (n + 1) s = (.refused r, s) := by
  simp only [run, h]

theorem faultReport_ne_stepLimitReached (f : Fault) : faultReport f ≠ .stepLimitReached := by
  cases f <;> simp [faultReport]

/-- A run of `m + n` steps is one of `m`, and one of `n` from there if that used up its budget. -/
theorem run_add (m n : Nat) (s : State) :
    run (m + n) s = if (run m s).1 = .stepLimitReached then run n (run m s).2 else run m s := by
  induction m generalizing s with
  | zero =>
    rw [Nat.zero_add]
    cases hs : notRunning s with
    | some f => simp [run_of_notRunning hs, faultReport_ne_stepLimitReached]
    | none => simp [run_zero_of_running (notRunning_eq_none.mp hs)]
  | succ m ih =>
    rw [Nat.succ_add]
    cases hs : step s with
    | next t => simp [run_succ_of_next hs, ih]
    | fault f => simp [run_succ_of_fault hs, faultReport_ne_stepLimitReached]
    | refused r => simp [run_succ_of_refused hs]

/-- The same, after a run that used up its budget. -/
theorem run_add_of_stepLimitReached {k : Nat} (h : run k s = (.stepLimitReached, t)) (n : Nat) :
    run (k + n) s = run n t := by
  simp [run_add, h]

end

end Sys2Proof.Machine
end

section
/-! Instructions that may run answer what their template does, and raise where an operand is out of bounds
(60_exceptions.md R341). -/

namespace Sys2Proof.Machine

section
variable {k : AluKind} {s : State}

/-- An instruction that answers some next state is given by what every next state of it is. -/
theorem exec_eq_of_answers {i : Instr} {out : Out} (ha : Answers (exec i s))
    (h : ∀ t, exec i s = .next t → out = .next t) : exec i s = out := by
  obtain ⟨t, ht⟩ := ha
  rw [ht, h t ht]

/-! ### The ALU forms with an r/m operand -/

theorem exec_rmR8_of_mayRun {rm : Rm8} {r : Reg8} (h : s.MayRun ((aluForms k).rmR8 rm r).opcode) :
    exec ((aluForms k).rmR8 rm r) s = aluRmR8 k rm r s :=
  exec_eq_of_answers h.answers fun _ => exec_rmR8_next

theorem exec_rmR16_of_mayRun {rm : Rm16} {r : Reg16} (h : s.MayRun ((aluForms k).rmR16 rm r).opcode) :
    exec ((aluForms k).rmR16 rm r) s = aluRmR16 k rm r s :=
  exec_eq_of_answers h.answers fun _ => exec_rmR16_next

theorem exec_rRm8_of_mayRun {r : Reg8} {rm : Rm8} (h : s.MayRun ((aluForms k).rRm8 r rm).opcode) :
    exec ((aluForms k).rRm8 r rm) s = aluRRm8 k r rm s :=
  exec_eq_of_answers h.answers fun _ => exec_rRm8_next

theorem exec_rRm16_of_mayRun {r : Reg16} {rm : Rm16} (h : s.MayRun ((aluForms k).rRm16 r rm).opcode) :
    exec ((aluForms k).rRm16 r rm) s = aluRRm16 k r rm s :=
  exec_eq_of_answers h.answers fun _ => exec_rRm16_next

/-! ### PUSH and POP -/

theorem exec_pushOf_of_execute (hp : s.params.provisionalPolicy = .execute) (r : Reg16) :
    exec (pushOf r) s = pushR r s := by
  have hc : classOf (pushOf r).opcode = .provisional := by cases r <;> decide
  exact exec_eq_of_answers (State.MayRun.answers (.inr (.inr ⟨hc, hp⟩))) fun _ => exec_pushOf_next

theorem exec_popOf_of_execute (hp : s.params.provisionalPolicy = .execute) (r : Reg16) :
    exec (popOf r) s = popR r s := by
  have hc : classOf (popOf r).opcode = .provisional := by cases r <;> decide
  exact exec_eq_of_answers (State.MayRun.answers (.inr (.inr ⟨hc, hp⟩))) fun _ => exec_popOf_next

theorem pushR_outOfBounds {r : Reg16} (h : s.wordInBounds (stackPA s (pushSp s)) = false) :
    pushR r s = .next (s.raiseError (.outOfBounds (stackPA s (pushSp s)))) := by
  simp [pushR_eq, h]

theorem popR_outOfBounds {r : Reg16} (h : s.wordInBounds (stackPA s (s.r16 .sp)) = false) :
    popR r s = .next (s.raiseError (.outOfBounds (stackPA s (s.r16 .sp)))) := by
  simp [popR_eq, h]

end

end Sys2Proof.Machine
end

section
/-! The obligations on the engine. -/

namespace Sys2Proof.Machine

/-- Settles O41: a Running machine has no error, so an error after a step is one the step raised, and raising keeps
all else. -/
theorem errorsCommitNothing : Obligations.ErrorsCommitNothing := by
  unfold Obligations.ErrorsCommitNothing
  intro s t e h he
  have hraised : ∃ a, t = s.raiseError (.outOfBounds a) := by
    obtain ⟨⟨hnone, -⟩, hfetch | ⟨i, -, hi⟩⟩ := step_next h
    · exact hfetch
    · refine (exec_raisesOrKeepsError hi).resolve_left fun hkept => ?_
      rw [hkept, hnone] at he
      cases he
  obtain ⟨a, rfl⟩ := hraised
  cases he
  rfl

/-- Settles O32: the table by its entries; a step halts only through an instruction, which gives another reason. -/
theorem operandCountIsAlwaysSupported : Obligations.OperandCountIsAlwaysSupported := by
  unfold Obligations.OperandCountIsAlwaysSupported
  refine ⟨fun op => Shape.operandCount_le_two _, fun s t op h hnone => ?_⟩
  obtain ⟨-, ⟨a, rfl⟩ | ⟨i, -, hi⟩⟩ := step_next h
  · simp [hnone]
  · obtain hr | hr | ⟨q, hr⟩ := exec_haltReason hi <;> simp [hr, hnone]

/-- Settles O36: the bytes up to offset 0xFFFF are fetched, and the next one is refused. -/
theorem crossingInstructionsAreRefused : Obligations.CrossingInstructionsAreRefused := by
  unfold Obligations.CrossingInstructionsAreRefused
  intro s i n hr hwf hrun hip hn h0 hmem hh
  exact step_of_cut hr hwf hrun h0 hn (by omega) hmem hh (instrByte_crossing (by omega))

/-- Settles O37: the class refuses the opcode in the fetch, and the instruction refuses itself. -/
theorem unsettledOpcodesAreRefused : Obligations.UnsettledOpcodesAreRefused := by
  unfold Obligations.UnsettledOpcodesAreRefused
  exact ⟨fun i s hc => exec_of_unsettled hc s,
    fun s hr hb hc => step_of_classRefusal hr hb (classRefusal_of_unsettled s hc)⟩

/-- Settles O38: the policy decides the refusal of the class in the fetch and the one in the instruction; a refusal in
the fetch for another reason is of another kind. -/
theorem provisionalPolicyDecides : Obligations.ProvisionalPolicyDecides := by
  unfold Obligations.ProvisionalPolicyDecides
  refine ⟨fun i s hc hp => exec_of_provisional_refuse hc hp,
    fun s hr hb hc hp => step_of_classRefusal hr hb (classRefusal_of_provisional hc hp), fun s op hp h => ?_⟩
  obtain hf | ⟨i, hi⟩ := step_refused h
  · obtain hc | ⟨ip0, n, hx⟩ := fetchInstr_refuse hf
    · exact classRefusal_ne_provisionalOpcode hp _ op hc
    · cases hx
  · exact exec_ne_provisionalOpcode hp i op hi

/-- Settles O39: the instruction is its opcode byte, and what it does is to halt. -/
theorem unimplementedOpcodesHalt : Obligations.UnimplementedOpcodesHalt := by
  unfold Obligations.UnimplementedOpcodesHalt
  exact ⟨fun i s hc => exec_of_unimplemented hc s, fun s => step_of_unimplemented, fun s => step_outOfBounds⟩

/-- Settles O46: where IP goes by the effect of the instruction, and the length by the entry of its opcode. -/
theorem ipAdvancesByTheLength : Obligations.IpAdvancesByTheLength := by
  unfold Obligations.IpAdvancesByTheLength
  refine ⟨fun i s t h => ?_, fun p i => encode_length⟩
  rw [← word_add_ofNat]
  exact exec_ip h

/-- Settles O49, by induction on the first budget. -/
theorem runsCompose : Obligations.RunsCompose := by
  unfold Obligations.RunsCompose
  exact run_add

/-- Settles O50: a longer run goes on from where the budget ended, and its first step ends it. -/
theorem theHaltingStepCounts : Obligations.TheHaltingStepCounts := by
  unfold Obligations.TheHaltingStepCounts
  intro k s t hk
  have hrest (n : Nat) : run (k + 1 + n) s = run (n + 1) t := by
    rw [Nat.add_assoc, Nat.add_comm 1 n, run_add_of_stepLimitReached hk]
  refine ⟨fun u hu he hh n => ?_, fun u e hu he n => ?_, fun r hr n => ?_⟩
  · rw [hrest, run_succ_of_next hu, run_of_halted he hh]
  · rw [hrest, run_succ_of_next hu, run_of_error he]
  · rw [hrest, run_succ_of_refused hr]

/-- Settles O57: the templates raise at an operand out of bounds, and the fetch at a byte out of bounds. -/
theorem outOfBoundsOperandsRaise : Obligations.OutOfBoundsOperandsRaise := by
  unfold Obligations.OutOfBoundsOperandsRaise
  refine ⟨fun k s m => ⟨fun hb => ⟨fun r h => ?_, fun r h => ?_⟩, fun hb => ⟨fun r h => ?_, fun r h => ?_⟩⟩,
    fun r s hp => ⟨fun hb => ?_, fun hb => ?_⟩, fun s => step_outOfBounds, ?_⟩
  · rw [exec_rmR8_of_mayRun h]
    exact aluLoc8_dst_outOfBounds hb
  · rw [exec_rRm8_of_mayRun h]
    exact aluLoc8_src_outOfBounds rfl hb
  · rw [exec_rmR16_of_mayRun h]
    exact aluLoc16_dst_outOfBounds hb
  · rw [exec_rRm16_of_mayRun h]
    exact aluLoc16_src_outOfBounds rfl hb
  · rw [exec_pushOf_of_execute hp]
    exact pushR_outOfBounds hb
  · rw [exec_popOf_of_execute hp]
    exact popR_outOfBounds hb
  · intro s i n hr hwf hrun hmem hn h0 hip hh
    exact step_of_cut hr hwf hrun h0 hn (by omega) (by omega) hh (instrByte_outOfBounds hip (by omega))

/-- Settles O33: a Running machine's fetch and instruction never fault, and another machine's step and run look at
what stopped it. -/
theorem stepsHappenOnlyWhenRunning : Obligations.StepsHappenOnlyWhenRunning := by
  unfold Obligations.StepsHappenOnlyWhenRunning
  refine fun s => ⟨State.Running.step_ne_fault, fun e he => step_of_notRunning (notRunning_of_error he),
    fun he hh => step_of_notRunning (notRunning_of_halted he hh), fun hr n => ?_⟩
  obtain ⟨f, hf⟩ := Option.ne_none_iff_exists'.mp (mt notRunning_eq_none.mp hr)
  rw [run_of_notRunning hf]

/-- Settles O35, by the three answers of the fetch of a byte. -/
theorem instructionBytesAreFetchedFromTheCodeSegment : Obligations.InstructionBytesAreFetchedFromTheCodeSegment := by
  unfold Obligations.InstructionBytesAreFetchedFromTheCodeSegment
  exact fun s n => ⟨instrByte_crossing, instrByte_ok, instrByte_outOfBounds⟩

/-- Settles O40: the byte 0xF4 is SETTLED and its entry has no operand byte, so the step is the instruction. -/
theorem hltHaltsAndAdvances : Obligations.HltHaltsAndAdvances := by
  unfold Obligations.HltHaltsAndAdvances
  refine ⟨rfl, fun s => ?_, fun s hr hop hb => step_of_fetchInstr_ok hr ?_, fun s => step_outOfBounds⟩
  · rw [← word_add_ofNat]
    rfl
  · have hrun : s.MayRun (s.byteAt s.physIp) := .inl (by rw [hop]; decide)
    rw [fetchInstr_of_mayRun hb hrun, hop]
    rfl

/-- Settles O48, by `run` on a machine that is not Running. -/
theorem runOfAStoppedMachineTakesNoStep : Obligations.RunOfAStoppedMachineTakesNoStep := by
  unfold Obligations.RunOfAStoppedMachineTakesNoStep
  exact ⟨fun s n he hh => run_of_halted he hh n, fun s e n he => run_of_error he n⟩

end Sys2Proof.Machine
end

section
/-! The instruction that is decoded has the opcode byte it was decoded from (30_encoding.md R70, R81). -/

namespace Sys2Proof

open Machine

/-- Operands of every form of the opcode table; an entry takes those of its own form. -/
structure Operands where
  rm : RmOperand := .reg 0
  reg : Field3 := 0
  imm8 : Byte := 0
  imm16 : Word := 0

/-- The instruction a table entry gives with operands. -/
def Shape.build (o : Operands) : Shape → Instr
  | .plain i | .absent i | .unsettled i => i
  | .mode8 mk => mk o.rm.at8 (Reg8.ofId o.reg)
  | .mode16 mk => mk o.rm.at16 (Reg16.ofId o.reg)
  | .imm8 mk => mk o.imm8
  | .imm16 mk => mk o.imm16

/-- The operands play no part in the opcode, so the 256 entries are evaluated with the operands left open. -/
theorem opcode_build_shapeOf (o : Operands) : ∀ op, ((shapeOf op).build o).opcode = op := of_decide_eq_true rfl

section
variable {ε : Type} {p : Mod00Rm110} {ib : Nat → Except ε Byte} {op : Byte} {i : Instr}

/-- What is decoded is the table entry with some operands. -/
theorem decodeOperands_build (h : decodeOperands p ib op = .ok i) : ∃ o, (shapeOf op).build o = i := by
  unfold decodeOperands at h
  generalize shapeOf op = sh at h ⊢
  cases sh with
  | plain | absent | unsettled => exact ⟨{}, Except.ok.inj h⟩
  | mode8 | mode16 =>
    obtain ⟨m, -, h⟩ := bind_ok_cases h
    obtain ⟨rm, -, h⟩ := bind_ok_cases h
    exact ⟨{ rm := rm, reg := regField m }, Except.ok.inj h⟩
  | imm8 =>
    obtain ⟨b, -, h⟩ := bind_ok_cases h
    exact ⟨{ imm8 := b }, Except.ok.inj h⟩
  | imm16 =>
    obtain ⟨lo, -, h⟩ := bind_ok_cases h
    obtain ⟨hi, -, h⟩ := bind_ok_cases h
    exact ⟨{ imm16 := joinBytes hi lo }, Except.ok.inj h⟩

theorem decodeOperands_opcode (h : decodeOperands p ib op = .ok i) : i.opcode = op := by
  obtain ⟨o, rfl⟩ := decodeOperands_build h
  exact opcode_build_shapeOf o op

end

end Sys2Proof
end

section
/-! What halts the machine (42_engine.md R169, R171; 60_exceptions.md R356). -/

namespace Sys2Proof.Machine

section
variable {s t : State} {i : Instr}

/-- The instruction that is fetched has the byte at PHYS_IP as its opcode (42_engine.md R162). -/
theorem fetchInstr_opcode (h : fetchInstr s = .ok i) : i.opcode = s.byteAt s.physIp := by
  by_cases hb : s.physIp < s.params.memSize
  · rw [fetchInstr_eq hb] at h
    split at h
    · cases h
    · exact decodeOperands_opcode h
  · rw [fetchInstr_outOfBounds (by omega)] at h
    cases h

theorem KeepsSystem.halted_eq (h : KeepsSystem s t) : t.halted = s.halted := by
  obtain ⟨-, -, -, -, hhalted, -, -⟩ := h
  exact hhalted

/-- An instruction keeps HALTED, or it is HLT or of an UNIMPLEMENTED opcode and records which. -/
theorem exec_halted (h : exec i s = .next t) :
    t.halted = s.halted ∨ (i = .hlt ∧ t.haltReason = some .hlt) ∨
    (classOf i.opcode = .unimplemented ∧ t.haltReason = some (.unimplementedOpcode i.opcode)) := by
  cases exec_effect h with
  | raised a => exact .inl rfl
  | unimplemented hc => exact .inr (.inr ⟨hc, rfl⟩)
  | hlt hi => exact .inr (.inl ⟨hi, rfl⟩)
  | alu8 k dst _ _ _ => exact .inl (keepsSystem_aluDone8 k s dst _ _).halted_eq
  | alu16 k dst _ _ _ => exact .inl (keepsSystem_aluDone16 k s dst _ _).halted_eq
  | incDec r p _ _ _ => exact .inl ((keepsSystem_setR16 s r p.1).setFlags_advance p.2 1).halted_eq
  | push r _ _ _ => exact .inl (keepsSystem_pushDone r s).halted_eq
  | pop r _ _ _ => exact .inl (keepsSystem_popDone r s).halted_eq

end

/-- Settles O47: a step starts Running, so the instruction it ran halted the machine, and that instruction's opcode is
the byte at PHYS_IP. -/
theorem onlyHltAndUnimplementedHalt : Obligations.OnlyHltAndUnimplementedHalt := by
  unfold Obligations.OnlyHltAndUnimplementedHalt
  intro s t h ht
  obtain ⟨⟨-, hrunning⟩, ⟨a, rfl⟩ | ⟨i, hf, hi⟩⟩ := step_next h
  · simp [hrunning] at ht
  · rw [← fetchInstr_opcode hf]
    obtain hkept | ⟨rfl, hreason⟩ | hunimplemented := exec_halted hi
    · simp [hkept, hrunning] at ht
    · exact .inl ⟨rfl, hreason⟩
    · exact .inr hunimplemented

end Sys2Proof.Machine
end

section
/-! Decoding and encoding are inverse (30_encoding.md R70 to R83; 40_operand_resolver.md R103 to R106): from any source
of bytes an instruction is decoded exactly when it is well formed and its bytes are what the source gives. -/

namespace Sys2Proof

open Machine

/-! ### The operands that a table entry builds its instruction from -/

/-- The instructions that an entry builds have the operand bytes and the well-formedness of their operands. -/
def Shape.Lawful : Shape → Prop
  | .plain i | .absent i | .unsettled i => i.operandBytes = [] ∧ ∀ p, i.wf p = true
  | .mode8 mk => ∀ rm r, (mk rm r).operandBytes = rm.encode r ∧ ∀ p, (mk rm r).wf p = rm.wf p
  | .mode16 mk => ∀ rm r, (mk rm r).operandBytes = rm.encode r ∧ ∀ p, (mk rm r).wf p = rm.wf p
  | .imm8 mk => ∀ imm, (mk imm).operandBytes = [imm] ∧ ∀ p, (mk imm).wf p = true
  | .imm16 mk => ∀ imm, (mk imm).operandBytes = wordBytes imm ∧ ∀ p, (mk imm).wf p = true

/-- The opcode is made a numeral first: its entry is then found with the operands left open. -/
theorem Instr.lawful_shapeOf (i : Instr) : (shapeOf i.opcode).Lawful := by
  cases i with
  | addRm8R8 | orRm8R8 | adcRm8R8 | sbbRm8R8 | andRm8R8 | subRm8R8 | xorRm8R8 | cmpRm8R8
  | addRm16R16 | orRm16R16 | adcRm16R16 | sbbRm16R16 | andRm16R16 | subRm16R16 | xorRm16R16 | cmpRm16R16
  | addR8Rm8 | orR8Rm8 | adcR8Rm8 | sbbR8Rm8 | andR8Rm8 | subR8Rm8 | xorR8Rm8 | cmpR8Rm8
  | addR16Rm16 | orR16Rm16 | adcR16Rm16 | sbbR16Rm16 | andR16Rm16 | subR16Rm16 | xorR16Rm16 | cmpR16Rm16 =>
    dsimp only [Instr.opcode]
    exact fun _ _ => ⟨rfl, fun _ => rfl⟩
  | addAlImm8 | orAlImm8 | adcAlImm8 | sbbAlImm8 | andAlImm8 | subAlImm8 | xorAlImm8 | cmpAlImm8
  | addAxImm16 | orAxImm16 | adcAxImm16 | sbbAxImm16 | andAxImm16 | subAxImm16 | xorAxImm16 | cmpAxImm16 =>
    dsimp only [Instr.opcode]
    exact fun _ => ⟨rfl, fun _ => rfl⟩
  | _ => exact ⟨rfl, fun _ => rfl⟩

/-- Every entry of the table is the one of some instruction. -/
theorem lawful_shapeOf (op : Byte) : (shapeOf op).Lawful := by
  have h := Instr.lawful_shapeOf ((shapeOf op).build {})
  rwa [opcode_build_shapeOf] at h

/-! ### An r/m operand before its width is applied -/

/-- The bytes of the operand, which are the same at both widths. -/
def RmOperand.encode (reg : Field3) : RmOperand → List Byte
  | .reg rm => [modeByte 0b11 reg rm]
  | .mem m => m.encode reg

def RmOperand.wf (p : Mod00Rm110) : RmOperand → Bool
  | .reg _ => true
  | .mem m => m.wf p

@[simp] theorem RmOperand.encode_at8 (o : RmOperand) (r : Reg8) : o.at8.encode r = o.encode r.id := by
  cases o <;> simp [at8, encode, Rm8.encode]

@[simp] theorem RmOperand.encode_at16 (o : RmOperand) (r : Reg16) : o.at16.encode r = o.encode r.id := by
  cases o <;> simp [at16, encode, Rm16.encode]

@[simp] theorem RmOperand.wf_at8 (p : Mod00Rm110) (o : RmOperand) : o.at8.wf p = o.wf p := by cases o <;> rfl

@[simp] theorem RmOperand.wf_at16 (p : Mod00Rm110) (o : RmOperand) : o.at16.wf p = o.wf p := by cases o <;> rfl

theorem RmOperand.exists_at8 (rm : Rm8) : ∃ o : RmOperand, o.at8 = rm := by
  cases rm with
  | reg r => exact ⟨.reg r.id, by simp [at8]⟩
  | mem m => exact ⟨.mem m, rfl⟩

theorem RmOperand.exists_at16 (rm : Rm16) : ∃ o : RmOperand, o.at16 = rm := by
  cases rm with
  | reg r => exact ⟨.reg r.id, by simp [at16]⟩
  | mem m => exact ⟨.mem m, rfl⟩

/-! ### The bytes that a source gives -/

theorem bind_eq_ok_iff {ε α β : Type} {x : Except ε α} {f : α → Except ε β} {b : β} :
    x.bind f = .ok b ↔ ∃ a, x = .ok a ∧ f a = .ok b :=
  ⟨bind_ok_cases, fun ⟨_, hx, hf⟩ => hx ▸ hf⟩

section
variable {ε : Type} {ib : Nat → Except ε Byte} {n : Nat} {p : Mod00Rm110}

/-- From offset `n` on the source gives these bytes. -/
def Gives (ib : Nat → Except ε Byte) (n : Nat) (bytes : List Byte) : Prop :=
  ∀ k b, bytes[k]? = some b → ib (n + k) = .ok b

@[simp] theorem gives_nil : Gives ib n [] := by simp [Gives]

@[simp] theorem gives_cons_iff {b : Byte} {bytes : List Byte} :
    Gives ib n (b :: bytes) ↔ ib n = .ok b ∧ Gives ib (n + 1) bytes := by
  refine ⟨fun h => ⟨h 0 b rfl, fun k c hk => ?_⟩, fun ⟨h0, h⟩ k c hk => ?_⟩
  · rw [Nat.add_assoc, Nat.add_comm 1]
    exact h (k + 1) c hk
  · cases k with
    | zero => exact Option.some.inj hk ▸ h0
    | succ k =>
      rw [← Nat.add_assoc, Nat.add_right_comm]
      exact h k c hk

/-- Giving a whole list of bytes from offset 0 on is to begin with it. -/
theorem gives_byteAt_iff {bytes all : List Byte} : Gives (byteAt all) 0 bytes ↔ bytes <+: all := by
  have hbyte (k : Nat) (b : Byte) : byteAt all k = .ok b ↔ all[k]? = some b := by
    unfold byteAt
    cases all[k]? <;> simp
  simp only [Gives, Nat.zero_add, hbyte, List.prefix_iff_getElem?]
  exact ⟨fun h k hk => h k _ (List.getElem?_eq_getElem hk), fun h k b hk => by
    obtain ⟨hlt, rfl⟩ := List.getElem?_eq_some_iff.mp hk
    exact h k hlt⟩

/-! ### The r/m operand that a mode byte selects -/

theorem disp16At_eq_ok_iff {v : Word} : disp16At ib = .ok v ↔ Gives ib 2 (wordBytes v) := by
  simp only [disp16At, bind_eq_ok_iff, wordBytes, gives_cons_iff, gives_nil, and_true]
  constructor
  · rintro ⟨lo, hlo, hi, hhi, hv⟩
    obtain rfl := Except.ok.inj hv
    simp [hlo, hhi]
  · rintro ⟨hlo, hhi⟩
    exact ⟨_, hlo, _, hhi, by simp⟩

section
variable (reg rm : Field3)

theorem decodeRm_mod00 : decodeRm p ib (modeByte 0b00#2 reg rm) =
    if rm = 0b110#3 ∧ p = .directDisp16 then (disp16At ib).bind fun d => .ok (.mem (.direct d))
    else .ok (.mem (.plain (Base.ofId rm))) := by
  simp [decodeRm]

theorem decodeRm_mod01 : decodeRm p ib (modeByte 0b01#2 reg rm) =
    (ib 2).bind fun d => .ok (.mem (.disp8 (Base.ofId rm) d)) := by
  simp [decodeRm]

theorem decodeRm_mod10 : decodeRm p ib (modeByte 0b10#2 reg rm) =
    (disp16At ib).bind fun d => .ok (.mem (.disp16 (Base.ofId rm) d)) := by
  simp [decodeRm]

/-- mod 00, rm 110 is the operand [BP] where it is no direct address (R106). -/
theorem wf_plain_ofId : (MemOperand.plain (Base.ofId rm)).wf p = true ↔ ¬ (rm = 0b110#3 ∧ p = .directDisp16) := by
  revert rm
  cases p <;> decide

end

/-- The four modes are all there are (R72). -/
theorem exists_modeByte (m : Byte) : ∃ reg rm, m = modeByte 0b00#2 reg rm ∨ m = modeByte 0b01#2 reg rm ∨
    m = modeByte 0b10#2 reg rm ∨ m = modeByte 0b11#2 reg rm := by
  have hmod : ∀ x : BitVec 2, x = 0b00#2 ∨ x = 0b01#2 ∨ x = 0b10#2 ∨ x = 0b11#2 := by decide
  refine ⟨regField m, rmField m, ?_⟩
  have hm := modeByte_fields m
  obtain h | h | h | h := hmod (modField m) <;> rw [h] at hm <;> simp [hm]

theorem decodeRm_ok {m : Byte} {o : RmOperand} (hm : ib 1 = .ok m) (h : decodeRm p ib m = .ok o) :
    o.wf p = true ∧ Gives ib 1 (o.encode (regField m)) := by
  obtain ⟨reg, rm, rfl | rfl | rfl | rfl⟩ := exists_modeByte m
  · rw [decodeRm_mod00] at h
    split at h
    · next hd =>
      obtain ⟨d, hg, ho⟩ := bind_ok_cases h
      obtain rfl := Except.ok.inj ho
      rw [disp16At_eq_ok_iff] at hg
      simp [RmOperand.wf, MemOperand.wf, RmOperand.encode, MemOperand.encode, hm, hd, hg]
    · next hd =>
      obtain rfl := Except.ok.inj h
      exact ⟨(wf_plain_ofId rm).mpr hd, by simp [RmOperand.encode, MemOperand.encode, hm]⟩
  · rw [decodeRm_mod01] at h
    obtain ⟨d, hd, ho⟩ := bind_ok_cases h
    obtain rfl := Except.ok.inj ho
    simp [RmOperand.wf, MemOperand.wf, RmOperand.encode, MemOperand.encode, hm, hd]
  · rw [decodeRm_mod10] at h
    obtain ⟨d, hg, ho⟩ := bind_ok_cases h
    obtain rfl := Except.ok.inj ho
    rw [disp16At_eq_ok_iff] at hg
    simp [RmOperand.wf, MemOperand.wf, RmOperand.encode, MemOperand.encode, hm, hg]
  · rw [decodeRm_register] at h
    obtain rfl := Except.ok.inj h
    simp [RmOperand.wf, RmOperand.encode, hm]

theorem decodeRm_of_gives {reg : Field3} {o : RmOperand} (hwf : o.wf p = true) (h : Gives ib 1 (o.encode reg)) :
    ∃ m, ib 1 = .ok m ∧ regField m = reg ∧ decodeRm p ib m = .ok o := by
  cases o with
  | reg rm =>
    obtain ⟨hm, -⟩ := gives_cons_iff.mp h
    exact ⟨_, hm, by simp, decodeRm_register p ib reg rm⟩
  | mem mo =>
    change mo.wf p = true at hwf
    cases mo with
    | plain b =>
      obtain ⟨hm, -⟩ := gives_cons_iff.mp h
      have hd := (wf_plain_ofId b.id).mp (by rwa [Base.ofId_id])
      exact ⟨_, hm, by simp, by simp [decodeRm_mod00, hd]⟩
    | disp8 b d =>
      obtain ⟨hm, hdisp⟩ := gives_cons_iff.mp h
      have hd : ib 2 = .ok d := (gives_cons_iff.mp hdisp).1
      exact ⟨_, hm, by simp, by simp [decodeRm_mod01, hd, Except.bind]⟩
    | disp16 b d =>
      obtain ⟨hm, hd⟩ := gives_cons_iff.mp h
      exact ⟨_, hm, by simp, by simp [decodeRm_mod10, disp16At_eq_ok_iff.mpr hd, Except.bind]⟩
    | direct a =>
      obtain ⟨hm, hd⟩ := gives_cons_iff.mp h
      have hp : p = .directDisp16 := by simpa [MemOperand.wf] using hwf
      exact ⟨_, hm, by simp, by simp [decodeRm_mod00, hp, disp16At_eq_ok_iff.mpr hd, Except.bind]⟩

/-! ### Instructions -/

/-- From a source of bytes exactly the well-formed instruction is decoded whose bytes the source gives. -/
theorem decodeOperands_eq_ok_iff {op : Byte} {i : Instr} : decodeOperands p ib op = .ok i ↔
    i.opcode = op ∧ i.wf p = true ∧ Gives ib 1 i.operandBytes := by
  constructor
  · intro h
    have hlaw := lawful_shapeOf op
    refine ⟨decodeOperands_opcode h, ?_⟩
    unfold decodeOperands at h
    generalize shapeOf op = sh at h hlaw
    cases sh with
    | plain j | absent j | unsettled j =>
      obtain rfl := Except.ok.inj h
      obtain ⟨hbytes, hwf⟩ := hlaw
      exact ⟨hwf p, by simp [hbytes]⟩
    | mode8 mk | mode16 mk =>
      obtain ⟨m, hm, h⟩ := bind_ok_cases h
      obtain ⟨o, ho, h⟩ := bind_ok_cases h
      obtain rfl := Except.ok.inj h
      obtain ⟨hbytes, hwf⟩ := hlaw _ _
      rw [hbytes, hwf]
      simpa using decodeRm_ok hm ho
    | imm8 mk =>
      obtain ⟨b, hb, h⟩ := bind_ok_cases h
      obtain rfl := Except.ok.inj h
      obtain ⟨hbytes, hwf⟩ := hlaw b
      exact ⟨hwf p, by simp [hbytes, hb]⟩
    | imm16 mk =>
      obtain ⟨lo, hlo, h⟩ := bind_ok_cases h
      obtain ⟨hi, hhi, h⟩ := bind_ok_cases h
      obtain rfl := Except.ok.inj h
      obtain ⟨hbytes, hwf⟩ := hlaw (joinBytes hi lo)
      exact ⟨hwf p, by simp [hbytes, wordBytes, hlo, hhi]⟩
  · rintro ⟨rfl, hwf, hg⟩
    have hb := i.builtBy_shapeOf
    unfold decodeOperands
    generalize shapeOf i.opcode = sh at hb
    cases sh with
    | plain j | absent j | unsettled j =>
      obtain ⟨rfl, -, -⟩ := hb
      rfl
    | mode8 mk =>
      obtain ⟨rm, r, hi, hbytes, hw⟩ := hb
      obtain ⟨o, rfl⟩ := RmOperand.exists_at8 rm
      rw [hbytes, RmOperand.encode_at8] at hg
      rw [hw, RmOperand.wf_at8] at hwf
      obtain ⟨m, hm, hreg, ho⟩ := decodeRm_of_gives hwf hg
      simp [hm, ho, hreg, hi, Except.bind]
    | mode16 mk =>
      obtain ⟨rm, r, hi, hbytes, hw⟩ := hb
      obtain ⟨o, rfl⟩ := RmOperand.exists_at16 rm
      rw [hbytes, RmOperand.encode_at16] at hg
      rw [hw, RmOperand.wf_at16] at hwf
      obtain ⟨m, hm, hreg, ho⟩ := decodeRm_of_gives hwf hg
      simp [hm, ho, hreg, hi, Except.bind]
    | imm8 mk =>
      obtain ⟨imm, hi, hbytes, -⟩ := hb
      simp_all [Except.bind]
    | imm16 mk =>
      obtain ⟨imm, hi, hbytes, -⟩ := hb
      simp_all [wordBytes, Except.bind]

/-- Decoding a list of bytes: the one well-formed instruction whose bytes the list begins with. -/
theorem decode_eq_ok_iff {bytes : List Byte} {i : Instr} :
    decode p bytes = .ok i ↔ i.wf p = true ∧ encode i <+: bytes := by
  simp only [decode, bind_eq_ok_iff, decodeOperands_eq_ok_iff, ← gives_byteAt_iff, encode, gives_cons_iff,
    Nat.zero_add]
  constructor
  · rintro ⟨op, hop, rfl, hwf, hg⟩
    exact ⟨hwf, hop, hg⟩
  · rintro ⟨hwf, hop, hg⟩
    exact ⟨_, hop, rfl, hwf, hg⟩

end

end Sys2Proof
end

section
/-! The obligations on decoding and encoding. -/

namespace Sys2Proof

/-- Settles O26: the bytes begin with the encoding. -/
theorem decodeOfEncodeIsTheInstruction : Obligations.DecodeOfEncodeIsTheInstruction := by
  unfold Obligations.DecodeOfEncodeIsTheInstruction
  exact fun p i rest hwf => decode_eq_ok_iff.mpr ⟨hwf, List.prefix_append _ _⟩

/-- Settles O27: what follows the encoding is the rest. -/
theorem decodedBytesBeginWithTheEncoding : Obligations.DecodedBytesBeginWithTheEncoding := by
  unfold Obligations.DecodedBytesBeginWithTheEncoding
  intro p bytes i h
  obtain ⟨hwf, rest, hrest⟩ := decode_eq_ok_iff.mp h
  exact ⟨hwf, rest, hrest.symm⟩

end Sys2Proof
end

section
/-! What an instruction does to the invariant of the states (10_state.md R36; 20_memory.md R50; 00_scope.md R7). -/

namespace Sys2Proof.Machine

/-- The part of the invariant that is about memory, within a given MEM_SIZE. -/
def MemoryFits (bound : Nat) (m : Memory) : Prop := Memory.wf m = true ∧ Memory.below bound m = true

section
variable {s t : State}

/-- What keeps the system state keeps the invariant if memory still fits. -/
theorem State.Inv.of_keepsSystem (h : s.Inv) (hk : KeepsSystem s t) (hm : MemoryFits s.params.memSize t.mem) :
    t.Inv := by
  obtain ⟨-, -, -, -, hhalted, hreason, hparams⟩ := hk
  obtain ⟨hcanonical, hrange⟩ := hm
  exact ⟨hcanonical, by rw [hparams, hrange], by rw [hreason, hhalted, h.reasonIffHalted], by rw [hparams, h.paramsWf]⟩

theorem State.Inv.memoryFits (h : s.Inv) : MemoryFits s.params.memSize s.mem := ⟨h.memCanonical, h.memInRange⟩

theorem State.Inv.raiseError (h : s.Inv) (e : Error) : (s.raiseError e).Inv :=
  h.of_keepsSystem (keepsSystem_raiseError s e) h.memoryFits

/-- Halting records the reason with HALTED. -/
theorem State.Inv.halt (h : s.Inv) (reason : HaltReason) : (s.halt reason).Inv :=
  ⟨h.memCanonical, h.memInRange, rfl, h.paramsWf⟩

theorem State.Inv.advance (h : s.Inv) (n : Nat) : (s.advance n).Inv :=
  ⟨h.memCanonical, h.memInRange, h.reasonIffHalted, h.paramsWf⟩

theorem State.Inv.aluDone8 (h : s.Inv) (k : AluKind) {dst : Loc8} (hd : dst.inBounds s = true) (p : Byte × FlagWrite)
    (len : Nat) : (aluDone8 k s dst p len).Inv := by
  refine h.of_keepsSystem (keepsSystem_aluDone8 k s dst p len) ?_
  unfold Machine.aluDone8
  split
  · exact Loc8.put_memory p.1 hd h.memCanonical h.memInRange
  · exact h.memoryFits

theorem State.Inv.aluDone16 (h : s.Inv) (k : AluKind) {dst : Loc16} (hd : dst.inBounds s = true)
    (p : Word × FlagWrite) (len : Nat) : (aluDone16 k s dst p len).Inv := by
  refine h.of_keepsSystem (keepsSystem_aluDone16 k s dst p len) ?_
  unfold Machine.aluDone16
  split
  · exact Loc16.put_memory p.1 hd h.memCanonical h.memInRange
  · exact h.memoryFits

theorem State.Inv.incDec (h : s.Inv) (r : Reg16) (p : Word × FlagWrite) :
    (((s.setR16 r p.1).setFlags (s.flags.update p.2)).advance 1).Inv :=
  h.of_keepsSystem ((keepsSystem_setR16 s r p.1).setFlags_advance p.2 1) (by simpa using h.memoryFits)

theorem State.Inv.pushDone (h : s.Inv) (r : Reg16) (hb : s.wordInBounds (stackPA s (pushSp s)) = true) :
    (pushDone r s).Inv := by
  refine h.of_keepsSystem (keepsSystem_pushDone r s) ?_
  have hm := State.storeWord_memory (pushValue r s) hb h.memCanonical h.memInRange
  simpa [Machine.pushDone, MemoryFits] using hm

theorem State.Inv.popDone (h : s.Inv) (r : Reg16) : (popDone r s).Inv :=
  h.of_keepsSystem (keepsSystem_popDone r s) (by simpa [Machine.popDone] using h.memoryFits)

theorem exec_keepsInv {i : Instr} (h : s.Inv) (hi : exec i s = .next t) : t.Inv := by
  cases exec_effect hi with
  | raised a => exact h.raiseError _
  | unimplemented _ => exact h.halt _
  | hlt _ => exact (h.halt .hlt).advance 1
  | alu8 k dst _ _ hd => exact h.aluDone8 k hd _ _
  | alu16 k dst _ _ hd => exact h.aluDone16 k hd _ _
  | incDec r p _ _ _ => exact h.incDec r p
  | push r _ _ hb => exact h.pushDone r hb
  | pop r _ _ _ => exact h.popDone r

end

/-- Settles O42: the fetch only raises, and every effect of an instruction keeps the invariant. -/
theorem stepKeepsTheInvariant : Obligations.StepKeepsTheInvariant := by
  unfold Obligations.StepKeepsTheInvariant
  intro s t h hs
  obtain ⟨-, ⟨a, rfl⟩ | ⟨i, -, hi⟩⟩ := step_next hs
  · exact h.raiseError _
  · exact exec_keepsInv h hi

/-- Settles O8: nothing is stored and nothing has halted. -/
theorem resetMeetsTheInvariant : Obligations.ResetMeetsTheInvariant := by
  unfold Obligations.ResetMeetsTheInvariant
  exact ⟨rfl, rfl, rfl, rfl⟩

/-- Settles O7: construction copies the launch and leaves the machine Running, and a Running machine's step is no
fault. -/
theorem constructionLeavesTheMachineRunning : Obligations.ConstructionLeavesTheMachineRunning := by
  unfold Obligations.ConstructionLeavesTheMachineRunning
  intro l
  have hr : (State.construct l).Running := ⟨rfl, rfl⟩
  exact ⟨rfl, rfl, rfl, hr.step_ne_fault, rfl, rfl, rfl, rfl, rfl, rfl⟩

end Sys2Proof.Machine
end

section
/-! The six forms of each ALU kind, and INC, DEC, PUSH and POP, where their opcode may run and their operands are in
bounds (43_alu_instructions.md R200 to R202; 44_incdec_stack.md R300, R301). -/

namespace Sys2Proof.Machine

section
variable {k : AluKind} {s : State}

theorem exec_alImm_of_mayRun {imm : Byte} (h : s.MayRun ((aluForms k).alImm imm).opcode) :
    exec ((aluForms k).alImm imm) s = aluAlImm k imm s :=
  exec_eq_of_answers h.answers fun _ => exec_alImm_next

theorem exec_axImm_of_mayRun {imm : Word} (h : s.MayRun ((aluForms k).axImm imm).opcode) :
    exec ((aluForms k).axImm imm) s = aluAxImm k imm s :=
  exec_eq_of_answers h.answers fun _ => exec_axImm_next

/-- Each form completes with the function of its kind. -/
theorem aluCompletes_fn (k : AluKind) : AluCompletes k k.writes (fun _ a b c => k.fn a b c) := by
  refine fun s => ⟨fun rm r h hb => ?_, fun rm r h hb => ?_, fun r rm h hb => ?_, fun r rm h hb => ?_,
    fun imm h => ?_, fun imm h => ?_⟩
  · exact (exec_rmR8_of_mayRun h).trans (aluLoc8_ok hb rfl)
  · exact (exec_rmR16_of_mayRun h).trans (aluLoc16_ok hb rfl)
  · exact (exec_rRm8_of_mayRun h).trans (aluLoc8_ok rfl hb)
  · exact (exec_rRm16_of_mayRun h).trans (aluLoc16_ok rfl hb)
  · exact (exec_alImm_of_mayRun h).trans (aluAlImm_ok k imm s)
  · exact (exec_axImm_of_mayRun h).trans (aluAxImm_ok k imm s)

/-- Each form completes with any function that the kind's is at every width. -/
theorem aluCompletes (k : AluKind) {fn : AluFn}
    (hfn : ∀ (w : Nat) (a b : BitVec w) (c : Bool), k.fn a b c = fn w a b c) : AluCompletes k k.writes fn := by
  obtain rfl : (fun _ a b c => k.fn a b c) = fn := by
    funext w a b c
    exact hfn w a b c
  exact aluCompletes_fn k

theorem exec_incOf_of_execute (hp : s.params.provisionalPolicy = .execute) (r : Reg16) :
    exec (incOf r) s = incR r s := by
  cases r <;> exact provisional_execute hp

theorem exec_decOf_of_execute (hp : s.params.provisionalPolicy = .execute) (r : Reg16) :
    exec (decOf r) s = decR r s := by
  cases r <;> exact provisional_execute hp

theorem pushR_inBounds {r : Reg16} (h : stackPA s (pushSp s) + 1 < s.params.memSize) :
    pushR r s = .next (pushDone r s) := by
  rw [pushR_eq, if_pos (State.wordInBounds_iff.mpr h)]

theorem popR_inBounds {r : Reg16} (h : stackPA s (s.r16 .sp) + 1 < s.params.memSize) :
    popR r s = .next (popDone r s) := by
  rw [popR_eq, if_pos (State.wordInBounds_iff.mpr h)]

end

/-- Settles O51: ADD and ADC complete with the functions of R132 and R136. -/
theorem addAndAdcComplete : Obligations.AddAndAdcComplete := by
  unfold Obligations.AddAndAdcComplete
  exact ⟨aluCompletes .add fun _ a b _ => addW_eq_ruleAdd a b, aluCompletes .adc fun _ a b c => adcW_eq_ruleAdc a b c⟩

/-- Settles O52: SUB and SBB complete with the functions of R133 and R137. -/
theorem subAndSbbComplete : Obligations.SubAndSbbComplete := by
  unfold Obligations.SubAndSbbComplete
  exact ⟨aluCompletes .sub fun _ a b _ => subW_eq_ruleSub a b, aluCompletes .sbb fun _ a b c => sbbW_eq_ruleSbb a b c⟩

/-- Settles O53: AND, OR and XOR complete with the function of R134. -/
theorem logicalOperationsComplete : Obligations.LogicalOperationsComplete := by
  unfold Obligations.LogicalOperationsComplete
  exact ⟨aluCompletes .and fun _ a b _ => andW_eq_ruleLogic a b, aluCompletes .or fun _ a b _ => orW_eq_ruleLogic a b,
    aluCompletes .xor fun _ a b _ => xorW_eq_ruleLogic a b⟩

/-- Settles O54: CMP completes with the function of SUB, and is the kind that does not write. -/
theorem cmpCompletes : Obligations.CmpCompletes := by
  unfold Obligations.CmpCompletes
  exact aluCompletes .cmp fun _ a b _ => subW_eq_ruleSub a b

/-- Settles O55: the templates of INC and DEC with the rules of R138. -/
theorem incAndDecComplete : Obligations.IncAndDecComplete := by
  unfold Obligations.IncAndDecComplete
  intro r s hp
  obtain ⟨hinc, hdec⟩ := incDec16FollowsItsRule (s.r16 r)
  rw [exec_incOf_of_execute hp, exec_decOf_of_execute hp, incR, decR, hinc, hdec]
  exact ⟨rfl, rfl⟩

/-- Settles O56: with the stack word in bounds a push and a pop complete. -/
theorem pushAndPopComplete : Obligations.PushAndPopComplete := by
  unfold Obligations.PushAndPopComplete
  intro r s hp
  rw [exec_pushOf_of_execute hp, exec_popOf_of_execute hp]
  exact ⟨fun h => pushR_inBounds h, fun h => popR_inBounds h⟩

end Sys2Proof.Machine
end

section
/-! The opcodes of the operations (30_encoding.md R78; 44_incdec_stack.md R300, R301). -/

namespace Sys2Proof

/-- Settles O30, kind by kind and register by register. -/
theorem opcodesFollowTheLayout : Obligations.OpcodesFollowTheLayout := by
  unfold Obligations.OpcodesFollowTheLayout
  refine ⟨fun k _ _ _ _ _ _ => ?_, fun r => ?_⟩
  · cases k <;> exact ⟨rfl, rfl, rfl, rfl, rfl, rfl⟩
  · cases r <;> exact ⟨rfl, rfl, rfl, rfl⟩

end Sys2Proof
end

section
/-! The step of a machine that has a whole instruction at CS:IP (42_engine.md R162 to R165). -/

namespace Sys2Proof.Machine

section
variable {s : State} {i : Instr}

/-- Bytes at PHYS_IP that fit are the ones that the fetch gives. -/
theorem State.Holds.gives {bytes : List Byte} (hh : s.Holds s.physIp bytes) (hc : s.CodeFits bytes.length) :
    Gives (instrByte s) 0 bytes := by
  intro k b hk
  obtain ⟨hip, hmem⟩ := hc
  obtain ⟨hlt, -⟩ := List.getElem?_eq_some_iff.mp hk
  rw [Nat.zero_add, instrByte_ok (by omega) (by omega), hh k b hk]

theorem fetchInstr_of_encode (hwf : i.wf s.params.mod00Rm110 = true) (hrun : s.MayRun i.opcode)
    (hc : s.CodeFits (encode i).length) (hh : s.Holds s.physIp (encode i)) : fetchInstr s = .ok i := by
  obtain ⟨-, hoperands⟩ := gives_cons_iff.mp (hh.gives hc)
  have hop : s.byteAt s.physIp = i.opcode := hh 0 i.opcode rfl
  have hmem : s.physIp < s.params.memSize := Nat.lt_of_lt_of_le (by simp [encode]) hc.2
  rw [fetchInstr_of_mayRun hmem (hop ▸ hrun), hop]
  exact decodeOperands_eq_ok_iff.mpr ⟨rfl, hwf, hoperands⟩

end

/-- Settles O34: the fetch decodes the instruction whose bytes it gives. -/
theorem stepRunsTheDecodedInstruction : Obligations.StepRunsTheDecodedInstruction := by
  unfold Obligations.StepRunsTheDecodedInstruction
  exact fun s i hr hwf hrun hc hh => step_of_fetchInstr_ok hr (fetchInstr_of_encode hwf hrun hc hh)

end Sys2Proof.Machine
end
